-- ==== Sys2Proof/Word.lean ====
section
/-! DEFINITION. The two word types of the machine: 8-bit bytes and 16-bit words (00_scope.md R5, R7).
BitVec arithmetic is modulo 256 and modulo 65536, as R5 and R8 ask. -/

namespace Sys2Proof

/-- A byte, a u8 (R7). -/
abbrev Byte := BitVec 8

/-- A word, a u16: register pairs, IX, IY, SP, PC, memory addresses and ports (R5, R7). -/
abbrev Word := BitVec 16

end Sys2Proof
end

