-- ==== Sys2Proof/Machine/Bits.lean ====
section
/-! DEFINITION. Byte order, sign extension and bit helpers (00_scope.md R7, R8, R10). -/

namespace Sys2Proof.Machine

/-- `v[15:8]` (R7). -/
def hiByte (w : Word) : Byte := w.extractLsb' 8 8

/-- `v[7:0]` (R7). -/
def loByte (w : Word) : Byte := w.extractLsb' 0 8

/-- The word `hi:lo`, hi * 256 + lo (R7). -/
def mkWord (hi lo : Byte) : Word := hi ++ lo

/-- `sext_16(d)` (R8). -/
def sext16 (d : Byte) : Word := d.signExtend 16

/-- `zext_16(b)` (R8). -/
def zext16 (b : Byte) : Word := b.setWidth 16

/-- The number of 1 bits of a byte. -/
def popCount (v : Byte) : Nat :=
  (v.getLsbD 0).toNat + (v.getLsbD 1).toNat + (v.getLsbD 2).toNat + (v.getLsbD 3).toNat +
  (v.getLsbD 4).toNat + (v.getLsbD 5).toNat + (v.getLsbD 6).toNat + (v.getLsbD 7).toNat

/-- `parity(v)`: 1 when v has an even number of 1 bits (R10, 40_alu.md R147). -/
def parity (v : Byte) : Bool := popCount v % 2 == 0

end Sys2Proof.Machine
end

