-- ==== Sys2Proof/Config.lean ====
section
/-! DEFINITION. What an implementation fixes (the open parameters of 00_scope.md R6) and the free values:
constants with no body, so that nothing can evaluate one or prove a value of it. -/

namespace Sys2Proof

/-- The interrupt mode IM, one of 0, 1, 2 (10_state.md R34). -/
inductive IMode where
  | im0
  | im1
  | im2
  deriving DecidableEq, Repr

/-- The open parameters of R6, fixed at construction and never changed over the core's life (R522).
`resetPC` is P_RESET_PC. `im0` and `im1` say whether modes 0 and 1 are in P_IM_SUPPORTED; mode 2 always is.
The eight bytes are P_SHADOW_RESET, the alternate set after reset (F' as a flag byte). The cost of an instruction is
"parameter in effect" (93_implementation_defined.md section 1); `tableDDCB` says which of the two costs the spec prints
for an indexed CB form it has: the cell of R540's DD CB table, or the count of R429's examples (log 13). -/
structure Params where
  resetPC : Word
  im0 : Bool
  im1 : Bool
  shadowA : Byte
  shadowF : Byte
  shadowB : Byte
  shadowC : Byte
  shadowD : Byte
  shadowE : Byte
  shadowH : Byte
  shadowL : Byte
  tableDDCB : Bool
  deriving DecidableEq, Repr

/-- Is the mode in P_IM_SUPPORTED (R6, 60_exceptions.md R482)? -/
def Params.supports (p : Params) : IMode → Bool
  | .im0 => p.im0
  | .im1 => p.im1
  | .im2 => true

/-- The parameters `State.reset` is built with. resetPC is the spec's default (R6, D29), log 1.
DESIGN CHOICE, unsafe: every mode supported (log 2) and an alternate set of zeros (log 3).
DEDUCED, unsafe: the indexed CB forms cost what R429's examples and the test vectors print (log 13).
`params` is a field of State, so a statement over all states holds for every value of the parameters. -/
def Params.default : Params where
  resetPC := 0x0000
  im0 := true
  im1 := true
  shadowA := 0x00
  shadowF := 0x00
  shadowB := 0x00
  shadowC := 0x00
  shadowD := 0x00
  shadowE := 0x00
  shadowH := 0x00
  shadowL := 0x00
  tableDDCB := false

/-- `any_bit()` (R10, D21): a free bit under no law, fresh at each use, applied to the counter `State.draws`
(log 9). Safe: no claim can depend on it. -/
opaque Config.anyBit : Nat → Bool

/-- The byte an I/O read of a port returns when the input list `State.ioIn` is empty (20_memory.md R61):
a free value, fresh at each use (log 5). Safe. -/
opaque Config.ioByte : Nat → Word → Byte

/-- Whether a memory write that reports an error took effect, "up to the adapter" (60_exceptions.md R483, D30):
a free value (log 8). Safe. -/
opaque Config.failedWriteLands : Nat → Bool

end Sys2Proof
end

