-- ==== Sys2Proof/Syntax.lean ====
section
/-! DEFINITION. The instructions: one constructor per mnemonic of spec/opcode_table.json, and one each for the second
encodings ED 63 and ED 6B (log 15). An opcode that uses neither HL, H, L nor (HL) also runs, unchanged, after a DD or
FD byte (pass-through, 47_index_prefix.md R425): those rows of the table are other encodings of the same constructor,
and the decoder reports the byte's 4 T-states beside it. The constructors with operands stand first (Lean's code
generator numbers constructors that hold data up to 244 only). Operand bytes: `n` immediate, `e` relative offset,
`d` displacement; `nn` a 16-bit immediate (30_encoding.md R98). -/

namespace Sys2Proof

/-- The index context (47_index_prefix.md R420): None, IX after a DD byte, IY after an FD byte. -/
inductive Ctx where
  | none
  | ix
  | iy
  deriving DecidableEq, Repr

/-- One of three by the context. -/
def Ctx.pick {α : Type} (x : Ctx) (plain onIx onIy : α) : α :=
  match x with
  | .none => plain
  | .ix => onIx
  | .iy => onIy

/-- The operand table r without its memory cell (30_encoding.md R92, 10_state.md R40). -/
inductive Reg8 where
  | b
  | c
  | d
  | e
  | h
  | l
  | a
  deriving DecidableEq, Repr

/-- The operand table rp (R92, R44). -/
inductive Rp where
  | bc
  | de
  | hl
  | sp
  deriving DecidableEq, Repr

/-- The operand table rp2 (R92, R45). -/
inductive Rp2 where
  | bc
  | de
  | hl
  | af
  deriving DecidableEq, Repr

/-- The operand table cc (R92, 40_alu.md R180). -/
inductive Cond where
  | nz
  | z
  | nc
  | c
  | po
  | pe
  | p
  | m
  deriving DecidableEq, Repr

/-- The four conditions of JR cc (41_base_x0.md R205). -/
inductive JrCond where
  | nz
  | z
  | nc
  | c
  deriving DecidableEq, Repr

/-- Rows 0 to 3 of the condition table (R180). -/
def JrCond.toCond : JrCond → Cond
  | .nz => .nz
  | .z => .z
  | .nc => .nc
  | .c => .c

/-- The operand table alu (R92). -/
inductive AluOp where
  | add
  | adc
  | sub
  | sbc
  | and
  | xor
  | or
  | cp
  deriving DecidableEq, Repr

/-- The operand table rot without its fault cell (R92). -/
inductive RotOp where
  | rlc
  | rrc
  | rl
  | rr
  | sla
  | sra
  | srl
  deriving DecidableEq, Repr

/-- A y field as a bit number or an RST number, 0 to 7 (30_encoding.md R99). -/
inductive Idx8 where
  | i0
  | i1
  | i2
  | i3
  | i4
  | i5
  | i6
  | i7
  deriving DecidableEq, Repr

/-- The number a y field stands for. -/
def Idx8.toNat : Idx8 → Nat
  | .i0 => 0
  | .i1 => 1
  | .i2 => 2
  | .i3 => 3
  | .i4 => 4
  | .i5 => 5
  | .i6 => 6
  | .i7 => 7

/-- The instruction set (30_encoding.md R96). Names follow the Zilog syntax (R130): `m` marks a memory operand in
parentheses, `p` a port, `AFs` is AF'. Each constructor's comment gives its mnemonic, rule and bytes. -/
inductive Instr where
  /-- `LD BC,nn` (R206): 01 nn (also after DD, FD) -/
  | ld_BC_nn (nn : Word)
  /-- `LD B,n` (R220): 06 n (also after DD, FD) -/
  | ld_B_n (n : Byte)
  /-- `LD C,n` (R220): 0E n (also after DD, FD) -/
  | ld_C_n (n : Byte)
  /-- `DJNZ e` (R202): 10 e (also after DD, FD) -/
  | djnz_e (e : Byte)
  /-- `LD DE,nn` (R206): 11 nn (also after DD, FD) -/
  | ld_DE_nn (nn : Word)
  /-- `LD D,n` (R220): 16 n (also after DD, FD) -/
  | ld_D_n (n : Byte)
  /-- `JR e` (R203): 18 e (also after DD, FD) -/
  | jr_e (e : Byte)
  /-- `LD E,n` (R220): 1E n (also after DD, FD) -/
  | ld_E_n (n : Byte)
  /-- `JR NZ,e` (R205): 20 e (also after DD, FD) -/
  | jr_NZ_e (e : Byte)
  /-- `LD HL,nn` (R206): 21 nn -/
  | ld_HL_nn (nn : Word)
  /-- `LD (nn),HL` (R210): 22 nn -/
  | ld_mnn_HL (nn : Word)
  /-- `LD H,n` (R220): 26 n -/
  | ld_H_n (n : Byte)
  /-- `JR Z,e` (R205): 28 e (also after DD, FD) -/
  | jr_Z_e (e : Byte)
  /-- `LD HL,(nn)` (R214): 2A nn -/
  | ld_HL_mnn (nn : Word)
  /-- `LD L,n` (R220): 2E n -/
  | ld_L_n (n : Byte)
  /-- `JR NC,e` (R205): 30 e (also after DD, FD) -/
  | jr_NC_e (e : Byte)
  /-- `LD SP,nn` (R206): 31 nn (also after DD, FD) -/
  | ld_SP_nn (nn : Word)
  /-- `LD (nn),A` (R211): 32 nn (also after DD, FD) -/
  | ld_mnn_A (nn : Word)
  /-- `LD (HL),n` (R221): 36 n -/
  | ld_mHL_n (n : Byte)
  /-- `JR C,e` (R205): 38 e (also after DD, FD) -/
  | jr_C_e (e : Byte)
  /-- `LD A,(nn)` (R215): 3A nn (also after DD, FD) -/
  | ld_A_mnn (nn : Word)
  /-- `LD A,n` (R220): 3E n (also after DD, FD) -/
  | ld_A_n (n : Byte)
  /-- `JP NZ,nn` (R286): C2 nn (also after DD, FD) -/
  | jp_NZ_nn (nn : Word)
  /-- `JP nn` (R287): C3 nn (also after DD, FD) -/
  | jp_nn (nn : Word)
  /-- `CALL NZ,nn` (R294): C4 nn (also after DD, FD) -/
  | call_NZ_nn (nn : Word)
  /-- `ADD A,n` (R255): C6 n (also after DD, FD) -/
  | add_A_n (n : Byte)
  /-- `JP Z,nn` (R286): CA nn (also after DD, FD) -/
  | jp_Z_nn (nn : Word)
  /-- `CALL Z,nn` (R294): CC nn (also after DD, FD) -/
  | call_Z_nn (nn : Word)
  /-- `CALL nn` (R296): CD nn (also after DD, FD) -/
  | call_nn (nn : Word)
  /-- `ADC A,n` (R256): CE n (also after DD, FD) -/
  | adc_A_n (n : Byte)
  /-- `JP NC,nn` (R286): D2 nn (also after DD, FD) -/
  | jp_NC_nn (nn : Word)
  /-- `OUT (n),A` (R288): D3 n (also after DD, FD) -/
  | out_pn_A (n : Byte)
  /-- `CALL NC,nn` (R294): D4 nn (also after DD, FD) -/
  | call_NC_nn (nn : Word)
  /-- `SUB n` (R257): D6 n (also after DD, FD) -/
  | sub_n (n : Byte)
  /-- `JP C,nn` (R286): DA nn (also after DD, FD) -/
  | jp_C_nn (nn : Word)
  /-- `IN A,(n)` (R289): DB n (also after DD, FD) -/
  | in_A_pn (n : Byte)
  /-- `CALL C,nn` (R294): DC nn (also after DD, FD) -/
  | call_C_nn (nn : Word)
  /-- `SBC A,n` (R258): DE n (also after DD, FD) -/
  | sbc_A_n (n : Byte)
  /-- `JP PO,nn` (R286): E2 nn (also after DD, FD) -/
  | jp_PO_nn (nn : Word)
  /-- `CALL PO,nn` (R294): E4 nn (also after DD, FD) -/
  | call_PO_nn (nn : Word)
  /-- `AND n` (R259): E6 n (also after DD, FD) -/
  | and_n (n : Byte)
  /-- `JP PE,nn` (R286): EA nn (also after DD, FD) -/
  | jp_PE_nn (nn : Word)
  /-- `CALL PE,nn` (R294): EC nn (also after DD, FD) -/
  | call_PE_nn (nn : Word)
  /-- `XOR n` (R260): EE n (also after DD, FD) -/
  | xor_n (n : Byte)
  /-- `JP P,nn` (R286): F2 nn (also after DD, FD) -/
  | jp_P_nn (nn : Word)
  /-- `CALL P,nn` (R294): F4 nn (also after DD, FD) -/
  | call_P_nn (nn : Word)
  /-- `OR n` (R261): F6 n (also after DD, FD) -/
  | or_n (n : Byte)
  /-- `JP M,nn` (R286): FA nn (also after DD, FD) -/
  | jp_M_nn (nn : Word)
  /-- `CALL M,nn` (R294): FC nn (also after DD, FD) -/
  | call_M_nn (nn : Word)
  /-- `CP n` (R262): FE n (also after DD, FD) -/
  | cp_n (n : Byte)
  /-- `LD (nn),BC` (R354): ED 43 nn -/
  | ld_mnn_BC (nn : Word)
  /-- `LD BC,(nn)` (R355): ED 4B nn -/
  | ld_BC_mnn (nn : Word)
  /-- `LD (nn),DE` (R354): ED 53 nn -/
  | ld_mnn_DE (nn : Word)
  /-- `LD DE,(nn)` (R355): ED 5B nn -/
  | ld_DE_mnn (nn : Word)
  /-- `LD (nn),HL` (R354): ED 63 nn -/
  | ld_mnn_HL_ed (nn : Word)
  /-- `LD HL,(nn)` (R355): ED 6B nn -/
  | ld_HL_mnn_ed (nn : Word)
  /-- `LD (nn),SP` (R354): ED 73 nn -/
  | ld_mnn_SP (nn : Word)
  /-- `LD SP,(nn)` (R355): ED 7B nn -/
  | ld_SP_mnn (nn : Word)
  /-- `LD IX,nn` (R206): DD 21 nn -/
  | ld_IX_nn (nn : Word)
  /-- `LD (nn),IX` (R210): DD 22 nn -/
  | ld_mnn_IX (nn : Word)
  /-- `LD IXh,n` (R220): DD 26 n -/
  | ld_IXh_n (n : Byte)
  /-- `LD IX,(nn)` (R214): DD 2A nn -/
  | ld_IX_mnn (nn : Word)
  /-- `LD IXl,n` (R220): DD 2E n -/
  | ld_IXl_n (n : Byte)
  /-- `INC (IX+d)` (R218): DD 34 d -/
  | inc_mIXd (d : Byte)
  /-- `DEC (IX+d)` (R219): DD 35 d -/
  | dec_mIXd (d : Byte)
  /-- `LD (IX+d),n` (R221): DD 36 d n -/
  | ld_mIXd_n (d : Byte) (n : Byte)
  /-- `LD B,(IX+d)` (R251): DD 46 d -/
  | ld_B_mIXd (d : Byte)
  /-- `LD C,(IX+d)` (R251): DD 4E d -/
  | ld_C_mIXd (d : Byte)
  /-- `LD D,(IX+d)` (R251): DD 56 d -/
  | ld_D_mIXd (d : Byte)
  /-- `LD E,(IX+d)` (R251): DD 5E d -/
  | ld_E_mIXd (d : Byte)
  /-- `LD H,(IX+d)` (R251): DD 66 d -/
  | ld_H_mIXd (d : Byte)
  /-- `LD L,(IX+d)` (R251): DD 6E d -/
  | ld_L_mIXd (d : Byte)
  /-- `LD (IX+d),B` (R252): DD 70 d -/
  | ld_mIXd_B (d : Byte)
  /-- `LD (IX+d),C` (R252): DD 71 d -/
  | ld_mIXd_C (d : Byte)
  /-- `LD (IX+d),D` (R252): DD 72 d -/
  | ld_mIXd_D (d : Byte)
  /-- `LD (IX+d),E` (R252): DD 73 d -/
  | ld_mIXd_E (d : Byte)
  /-- `LD (IX+d),H` (R252): DD 74 d -/
  | ld_mIXd_H (d : Byte)
  /-- `LD (IX+d),L` (R252): DD 75 d -/
  | ld_mIXd_L (d : Byte)
  /-- `LD (IX+d),A` (R252): DD 77 d -/
  | ld_mIXd_A (d : Byte)
  /-- `LD A,(IX+d)` (R251): DD 7E d -/
  | ld_A_mIXd (d : Byte)
  /-- `ADD A,(IX+d)` (R255): DD 86 d -/
  | add_A_mIXd (d : Byte)
  /-- `ADC A,(IX+d)` (R256): DD 8E d -/
  | adc_A_mIXd (d : Byte)
  /-- `SUB (IX+d)` (R257): DD 96 d -/
  | sub_mIXd (d : Byte)
  /-- `SBC A,(IX+d)` (R258): DD 9E d -/
  | sbc_A_mIXd (d : Byte)
  /-- `AND (IX+d)` (R259): DD A6 d -/
  | and_mIXd (d : Byte)
  /-- `XOR (IX+d)` (R260): DD AE d -/
  | xor_mIXd (d : Byte)
  /-- `OR (IX+d)` (R261): DD B6 d -/
  | or_mIXd (d : Byte)
  /-- `CP (IX+d)` (R262): DD BE d -/
  | cp_mIXd (d : Byte)
  /-- `RLC (IX+d)` (R429): DD CB d 06 -/
  | rlc_mIXd (d : Byte)
  /-- `RRC (IX+d)` (R429): DD CB d 0E -/
  | rrc_mIXd (d : Byte)
  /-- `RL (IX+d)` (R429): DD CB d 16 -/
  | rl_mIXd (d : Byte)
  /-- `RR (IX+d)` (R429): DD CB d 1E -/
  | rr_mIXd (d : Byte)
  /-- `SLA (IX+d)` (R429): DD CB d 26 -/
  | sla_mIXd (d : Byte)
  /-- `SRA (IX+d)` (R429): DD CB d 2E -/
  | sra_mIXd (d : Byte)
  /-- `SRL (IX+d)` (R429): DD CB d 3E -/
  | srl_mIXd (d : Byte)
  /-- `BIT 0,(IX+d)` (R429): DD CB d 46 -/
  | bit_0_mIXd (d : Byte)
  /-- `BIT 1,(IX+d)` (R429): DD CB d 4E -/
  | bit_1_mIXd (d : Byte)
  /-- `BIT 2,(IX+d)` (R429): DD CB d 56 -/
  | bit_2_mIXd (d : Byte)
  /-- `BIT 3,(IX+d)` (R429): DD CB d 5E -/
  | bit_3_mIXd (d : Byte)
  /-- `BIT 4,(IX+d)` (R429): DD CB d 66 -/
  | bit_4_mIXd (d : Byte)
  /-- `BIT 5,(IX+d)` (R429): DD CB d 6E -/
  | bit_5_mIXd (d : Byte)
  /-- `BIT 6,(IX+d)` (R429): DD CB d 76 -/
  | bit_6_mIXd (d : Byte)
  /-- `BIT 7,(IX+d)` (R429): DD CB d 7E -/
  | bit_7_mIXd (d : Byte)
  /-- `RES 0,(IX+d)` (R429): DD CB d 86 -/
  | res_0_mIXd (d : Byte)
  /-- `RES 1,(IX+d)` (R429): DD CB d 8E -/
  | res_1_mIXd (d : Byte)
  /-- `RES 2,(IX+d)` (R429): DD CB d 96 -/
  | res_2_mIXd (d : Byte)
  /-- `RES 3,(IX+d)` (R429): DD CB d 9E -/
  | res_3_mIXd (d : Byte)
  /-- `RES 4,(IX+d)` (R429): DD CB d A6 -/
  | res_4_mIXd (d : Byte)
  /-- `RES 5,(IX+d)` (R429): DD CB d AE -/
  | res_5_mIXd (d : Byte)
  /-- `RES 6,(IX+d)` (R429): DD CB d B6 -/
  | res_6_mIXd (d : Byte)
  /-- `RES 7,(IX+d)` (R429): DD CB d BE -/
  | res_7_mIXd (d : Byte)
  /-- `SET 0,(IX+d)` (R429): DD CB d C6 -/
  | set_0_mIXd (d : Byte)
  /-- `SET 1,(IX+d)` (R429): DD CB d CE -/
  | set_1_mIXd (d : Byte)
  /-- `SET 2,(IX+d)` (R429): DD CB d D6 -/
  | set_2_mIXd (d : Byte)
  /-- `SET 3,(IX+d)` (R429): DD CB d DE -/
  | set_3_mIXd (d : Byte)
  /-- `SET 4,(IX+d)` (R429): DD CB d E6 -/
  | set_4_mIXd (d : Byte)
  /-- `SET 5,(IX+d)` (R429): DD CB d EE -/
  | set_5_mIXd (d : Byte)
  /-- `SET 6,(IX+d)` (R429): DD CB d F6 -/
  | set_6_mIXd (d : Byte)
  /-- `SET 7,(IX+d)` (R429): DD CB d FE -/
  | set_7_mIXd (d : Byte)
  /-- `LD IY,nn` (R206): FD 21 nn -/
  | ld_IY_nn (nn : Word)
  /-- `LD (nn),IY` (R210): FD 22 nn -/
  | ld_mnn_IY (nn : Word)
  /-- `LD IYh,n` (R220): FD 26 n -/
  | ld_IYh_n (n : Byte)
  /-- `LD IY,(nn)` (R214): FD 2A nn -/
  | ld_IY_mnn (nn : Word)
  /-- `LD IYl,n` (R220): FD 2E n -/
  | ld_IYl_n (n : Byte)
  /-- `INC (IY+d)` (R218): FD 34 d -/
  | inc_mIYd (d : Byte)
  /-- `DEC (IY+d)` (R219): FD 35 d -/
  | dec_mIYd (d : Byte)
  /-- `LD (IY+d),n` (R221): FD 36 d n -/
  | ld_mIYd_n (d : Byte) (n : Byte)
  /-- `LD B,(IY+d)` (R251): FD 46 d -/
  | ld_B_mIYd (d : Byte)
  /-- `LD C,(IY+d)` (R251): FD 4E d -/
  | ld_C_mIYd (d : Byte)
  /-- `LD D,(IY+d)` (R251): FD 56 d -/
  | ld_D_mIYd (d : Byte)
  /-- `LD E,(IY+d)` (R251): FD 5E d -/
  | ld_E_mIYd (d : Byte)
  /-- `LD H,(IY+d)` (R251): FD 66 d -/
  | ld_H_mIYd (d : Byte)
  /-- `LD L,(IY+d)` (R251): FD 6E d -/
  | ld_L_mIYd (d : Byte)
  /-- `LD (IY+d),B` (R252): FD 70 d -/
  | ld_mIYd_B (d : Byte)
  /-- `LD (IY+d),C` (R252): FD 71 d -/
  | ld_mIYd_C (d : Byte)
  /-- `LD (IY+d),D` (R252): FD 72 d -/
  | ld_mIYd_D (d : Byte)
  /-- `LD (IY+d),E` (R252): FD 73 d -/
  | ld_mIYd_E (d : Byte)
  /-- `LD (IY+d),H` (R252): FD 74 d -/
  | ld_mIYd_H (d : Byte)
  /-- `LD (IY+d),L` (R252): FD 75 d -/
  | ld_mIYd_L (d : Byte)
  /-- `LD (IY+d),A` (R252): FD 77 d -/
  | ld_mIYd_A (d : Byte)
  /-- `LD A,(IY+d)` (R251): FD 7E d -/
  | ld_A_mIYd (d : Byte)
  /-- `ADD A,(IY+d)` (R255): FD 86 d -/
  | add_A_mIYd (d : Byte)
  /-- `ADC A,(IY+d)` (R256): FD 8E d -/
  | adc_A_mIYd (d : Byte)
  /-- `SUB (IY+d)` (R257): FD 96 d -/
  | sub_mIYd (d : Byte)
  /-- `SBC A,(IY+d)` (R258): FD 9E d -/
  | sbc_A_mIYd (d : Byte)
  /-- `AND (IY+d)` (R259): FD A6 d -/
  | and_mIYd (d : Byte)
  /-- `XOR (IY+d)` (R260): FD AE d -/
  | xor_mIYd (d : Byte)
  /-- `OR (IY+d)` (R261): FD B6 d -/
  | or_mIYd (d : Byte)
  /-- `CP (IY+d)` (R262): FD BE d -/
  | cp_mIYd (d : Byte)
  /-- `RLC (IY+d)` (R429): FD CB d 06 -/
  | rlc_mIYd (d : Byte)
  /-- `RRC (IY+d)` (R429): FD CB d 0E -/
  | rrc_mIYd (d : Byte)
  /-- `RL (IY+d)` (R429): FD CB d 16 -/
  | rl_mIYd (d : Byte)
  /-- `RR (IY+d)` (R429): FD CB d 1E -/
  | rr_mIYd (d : Byte)
  /-- `SLA (IY+d)` (R429): FD CB d 26 -/
  | sla_mIYd (d : Byte)
  /-- `SRA (IY+d)` (R429): FD CB d 2E -/
  | sra_mIYd (d : Byte)
  /-- `SRL (IY+d)` (R429): FD CB d 3E -/
  | srl_mIYd (d : Byte)
  /-- `BIT 0,(IY+d)` (R429): FD CB d 46 -/
  | bit_0_mIYd (d : Byte)
  /-- `BIT 1,(IY+d)` (R429): FD CB d 4E -/
  | bit_1_mIYd (d : Byte)
  /-- `BIT 2,(IY+d)` (R429): FD CB d 56 -/
  | bit_2_mIYd (d : Byte)
  /-- `BIT 3,(IY+d)` (R429): FD CB d 5E -/
  | bit_3_mIYd (d : Byte)
  /-- `BIT 4,(IY+d)` (R429): FD CB d 66 -/
  | bit_4_mIYd (d : Byte)
  /-- `BIT 5,(IY+d)` (R429): FD CB d 6E -/
  | bit_5_mIYd (d : Byte)
  /-- `BIT 6,(IY+d)` (R429): FD CB d 76 -/
  | bit_6_mIYd (d : Byte)
  /-- `BIT 7,(IY+d)` (R429): FD CB d 7E -/
  | bit_7_mIYd (d : Byte)
  /-- `RES 0,(IY+d)` (R429): FD CB d 86 -/
  | res_0_mIYd (d : Byte)
  /-- `RES 1,(IY+d)` (R429): FD CB d 8E -/
  | res_1_mIYd (d : Byte)
  /-- `RES 2,(IY+d)` (R429): FD CB d 96 -/
  | res_2_mIYd (d : Byte)
  /-- `RES 3,(IY+d)` (R429): FD CB d 9E -/
  | res_3_mIYd (d : Byte)
  /-- `RES 4,(IY+d)` (R429): FD CB d A6 -/
  | res_4_mIYd (d : Byte)
  /-- `RES 5,(IY+d)` (R429): FD CB d AE -/
  | res_5_mIYd (d : Byte)
  /-- `RES 6,(IY+d)` (R429): FD CB d B6 -/
  | res_6_mIYd (d : Byte)
  /-- `RES 7,(IY+d)` (R429): FD CB d BE -/
  | res_7_mIYd (d : Byte)
  /-- `SET 0,(IY+d)` (R429): FD CB d C6 -/
  | set_0_mIYd (d : Byte)
  /-- `SET 1,(IY+d)` (R429): FD CB d CE -/
  | set_1_mIYd (d : Byte)
  /-- `SET 2,(IY+d)` (R429): FD CB d D6 -/
  | set_2_mIYd (d : Byte)
  /-- `SET 3,(IY+d)` (R429): FD CB d DE -/
  | set_3_mIYd (d : Byte)
  /-- `SET 4,(IY+d)` (R429): FD CB d E6 -/
  | set_4_mIYd (d : Byte)
  /-- `SET 5,(IY+d)` (R429): FD CB d EE -/
  | set_5_mIYd (d : Byte)
  /-- `SET 6,(IY+d)` (R429): FD CB d F6 -/
  | set_6_mIYd (d : Byte)
  /-- `SET 7,(IY+d)` (R429): FD CB d FE -/
  | set_7_mIYd (d : Byte)
  /-- `NOP` (R200): 00 (also after DD, FD) -/
  | nop
  /-- `LD (BC),A` (R208): 02 (also after DD, FD) -/
  | ld_mBC_A
  /-- `INC BC` (R216): 03 (also after DD, FD) -/
  | inc_BC
  /-- `INC B` (R218): 04 (also after DD, FD) -/
  | inc_B
  /-- `DEC B` (R219): 05 (also after DD, FD) -/
  | dec_B
  /-- `RLCA` (R222): 07 (also after DD, FD) -/
  | rlca
  /-- `EX AF,AF'` (R201): 08 (also after DD, FD) -/
  | ex_AF_AFs
  /-- `ADD HL,BC` (R207): 09 -/
  | add_HL_BC
  /-- `LD A,(BC)` (R212): 0A (also after DD, FD) -/
  | ld_A_mBC
  /-- `DEC BC` (R217): 0B (also after DD, FD) -/
  | dec_BC
  /-- `INC C` (R218): 0C (also after DD, FD) -/
  | inc_C
  /-- `DEC C` (R219): 0D (also after DD, FD) -/
  | dec_C
  /-- `RRCA` (R223): 0F (also after DD, FD) -/
  | rrca
  /-- `LD (DE),A` (R209): 12 (also after DD, FD) -/
  | ld_mDE_A
  /-- `INC DE` (R216): 13 (also after DD, FD) -/
  | inc_DE
  /-- `INC D` (R218): 14 (also after DD, FD) -/
  | inc_D
  /-- `DEC D` (R219): 15 (also after DD, FD) -/
  | dec_D
  /-- `RLA` (R224): 17 (also after DD, FD) -/
  | rla
  /-- `ADD HL,DE` (R207): 19 -/
  | add_HL_DE
  /-- `LD A,(DE)` (R213): 1A (also after DD, FD) -/
  | ld_A_mDE
  /-- `DEC DE` (R217): 1B (also after DD, FD) -/
  | dec_DE
  /-- `INC E` (R218): 1C (also after DD, FD) -/
  | inc_E
  /-- `DEC E` (R219): 1D (also after DD, FD) -/
  | dec_E
  /-- `RRA` (R225): 1F (also after DD, FD) -/
  | rra
  /-- `INC HL` (R216): 23 -/
  | inc_HL
  /-- `INC H` (R218): 24 -/
  | inc_H
  /-- `DEC H` (R219): 25 -/
  | dec_H
  /-- `DAA` (R226): 27 (also after DD, FD) -/
  | daa
  /-- `ADD HL,HL` (R207): 29 -/
  | add_HL_HL
  /-- `DEC HL` (R217): 2B -/
  | dec_HL
  /-- `INC L` (R218): 2C -/
  | inc_L
  /-- `DEC L` (R219): 2D -/
  | dec_L
  /-- `CPL` (R227): 2F (also after DD, FD) -/
  | cpl
  /-- `INC SP` (R216): 33 (also after DD, FD) -/
  | inc_SP
  /-- `INC (HL)` (R218): 34 -/
  | inc_mHL
  /-- `DEC (HL)` (R219): 35 -/
  | dec_mHL
  /-- `SCF` (R228): 37 (also after DD, FD) -/
  | scf
  /-- `ADD HL,SP` (R207): 39 -/
  | add_HL_SP
  /-- `DEC SP` (R217): 3B (also after DD, FD) -/
  | dec_SP
  /-- `INC A` (R218): 3C (also after DD, FD) -/
  | inc_A
  /-- `DEC A` (R219): 3D (also after DD, FD) -/
  | dec_A
  /-- `CCF` (R229): 3F (also after DD, FD) -/
  | ccf
  /-- `LD B,B` (R250): 40 (also after DD, FD) -/
  | ld_B_B
  /-- `LD B,C` (R250): 41 (also after DD, FD) -/
  | ld_B_C
  /-- `LD B,D` (R250): 42 (also after DD, FD) -/
  | ld_B_D
  /-- `LD B,E` (R250): 43 (also after DD, FD) -/
  | ld_B_E
  /-- `LD B,H` (R250): 44 -/
  | ld_B_H
  /-- `LD B,L` (R250): 45 -/
  | ld_B_L
  /-- `LD B,(HL)` (R251): 46 -/
  | ld_B_mHL
  /-- `LD B,A` (R250): 47 (also after DD, FD) -/
  | ld_B_A
  /-- `LD C,B` (R250): 48 (also after DD, FD) -/
  | ld_C_B
  /-- `LD C,C` (R250): 49 (also after DD, FD) -/
  | ld_C_C
  /-- `LD C,D` (R250): 4A (also after DD, FD) -/
  | ld_C_D
  /-- `LD C,E` (R250): 4B (also after DD, FD) -/
  | ld_C_E
  /-- `LD C,H` (R250): 4C -/
  | ld_C_H
  /-- `LD C,L` (R250): 4D -/
  | ld_C_L
  /-- `LD C,(HL)` (R251): 4E -/
  | ld_C_mHL
  /-- `LD C,A` (R250): 4F (also after DD, FD) -/
  | ld_C_A
  /-- `LD D,B` (R250): 50 (also after DD, FD) -/
  | ld_D_B
  /-- `LD D,C` (R250): 51 (also after DD, FD) -/
  | ld_D_C
  /-- `LD D,D` (R250): 52 (also after DD, FD) -/
  | ld_D_D
  /-- `LD D,E` (R250): 53 (also after DD, FD) -/
  | ld_D_E
  /-- `LD D,H` (R250): 54 -/
  | ld_D_H
  /-- `LD D,L` (R250): 55 -/
  | ld_D_L
  /-- `LD D,(HL)` (R251): 56 -/
  | ld_D_mHL
  /-- `LD D,A` (R250): 57 (also after DD, FD) -/
  | ld_D_A
  /-- `LD E,B` (R250): 58 (also after DD, FD) -/
  | ld_E_B
  /-- `LD E,C` (R250): 59 (also after DD, FD) -/
  | ld_E_C
  /-- `LD E,D` (R250): 5A (also after DD, FD) -/
  | ld_E_D
  /-- `LD E,E` (R250): 5B (also after DD, FD) -/
  | ld_E_E
  /-- `LD E,H` (R250): 5C -/
  | ld_E_H
  /-- `LD E,L` (R250): 5D -/
  | ld_E_L
  /-- `LD E,(HL)` (R251): 5E -/
  | ld_E_mHL
  /-- `LD E,A` (R250): 5F (also after DD, FD) -/
  | ld_E_A
  /-- `LD H,B` (R250): 60 -/
  | ld_H_B
  /-- `LD H,C` (R250): 61 -/
  | ld_H_C
  /-- `LD H,D` (R250): 62 -/
  | ld_H_D
  /-- `LD H,E` (R250): 63 -/
  | ld_H_E
  /-- `LD H,H` (R250): 64 -/
  | ld_H_H
  /-- `LD H,L` (R250): 65 -/
  | ld_H_L
  /-- `LD H,(HL)` (R251): 66 -/
  | ld_H_mHL
  /-- `LD H,A` (R250): 67 -/
  | ld_H_A
  /-- `LD L,B` (R250): 68 -/
  | ld_L_B
  /-- `LD L,C` (R250): 69 -/
  | ld_L_C
  /-- `LD L,D` (R250): 6A -/
  | ld_L_D
  /-- `LD L,E` (R250): 6B -/
  | ld_L_E
  /-- `LD L,H` (R250): 6C -/
  | ld_L_H
  /-- `LD L,L` (R250): 6D -/
  | ld_L_L
  /-- `LD L,(HL)` (R251): 6E -/
  | ld_L_mHL
  /-- `LD L,A` (R250): 6F -/
  | ld_L_A
  /-- `LD (HL),B` (R252): 70 -/
  | ld_mHL_B
  /-- `LD (HL),C` (R252): 71 -/
  | ld_mHL_C
  /-- `LD (HL),D` (R252): 72 -/
  | ld_mHL_D
  /-- `LD (HL),E` (R252): 73 -/
  | ld_mHL_E
  /-- `LD (HL),H` (R252): 74 -/
  | ld_mHL_H
  /-- `LD (HL),L` (R252): 75 -/
  | ld_mHL_L
  /-- `HALT` (R253): 76 (also after DD, FD) -/
  | halt
  /-- `LD (HL),A` (R252): 77 -/
  | ld_mHL_A
  /-- `LD A,B` (R250): 78 (also after DD, FD) -/
  | ld_A_B
  /-- `LD A,C` (R250): 79 (also after DD, FD) -/
  | ld_A_C
  /-- `LD A,D` (R250): 7A (also after DD, FD) -/
  | ld_A_D
  /-- `LD A,E` (R250): 7B (also after DD, FD) -/
  | ld_A_E
  /-- `LD A,H` (R250): 7C -/
  | ld_A_H
  /-- `LD A,L` (R250): 7D -/
  | ld_A_L
  /-- `LD A,(HL)` (R251): 7E -/
  | ld_A_mHL
  /-- `LD A,A` (R250): 7F (also after DD, FD) -/
  | ld_A_A
  /-- `ADD A,B` (R255): 80 (also after DD, FD) -/
  | add_A_B
  /-- `ADD A,C` (R255): 81 (also after DD, FD) -/
  | add_A_C
  /-- `ADD A,D` (R255): 82 (also after DD, FD) -/
  | add_A_D
  /-- `ADD A,E` (R255): 83 (also after DD, FD) -/
  | add_A_E
  /-- `ADD A,H` (R255): 84 -/
  | add_A_H
  /-- `ADD A,L` (R255): 85 -/
  | add_A_L
  /-- `ADD A,(HL)` (R255): 86 -/
  | add_A_mHL
  /-- `ADD A,A` (R255): 87 (also after DD, FD) -/
  | add_A_A
  /-- `ADC A,B` (R256): 88 (also after DD, FD) -/
  | adc_A_B
  /-- `ADC A,C` (R256): 89 (also after DD, FD) -/
  | adc_A_C
  /-- `ADC A,D` (R256): 8A (also after DD, FD) -/
  | adc_A_D
  /-- `ADC A,E` (R256): 8B (also after DD, FD) -/
  | adc_A_E
  /-- `ADC A,H` (R256): 8C -/
  | adc_A_H
  /-- `ADC A,L` (R256): 8D -/
  | adc_A_L
  /-- `ADC A,(HL)` (R256): 8E -/
  | adc_A_mHL
  /-- `ADC A,A` (R256): 8F (also after DD, FD) -/
  | adc_A_A
  /-- `SUB B` (R257): 90 (also after DD, FD) -/
  | sub_B
  /-- `SUB C` (R257): 91 (also after DD, FD) -/
  | sub_C
  /-- `SUB D` (R257): 92 (also after DD, FD) -/
  | sub_D
  /-- `SUB E` (R257): 93 (also after DD, FD) -/
  | sub_E
  /-- `SUB H` (R257): 94 -/
  | sub_H
  /-- `SUB L` (R257): 95 -/
  | sub_L
  /-- `SUB (HL)` (R257): 96 -/
  | sub_mHL
  /-- `SUB A` (R257): 97 (also after DD, FD) -/
  | sub_A
  /-- `SBC A,B` (R258): 98 (also after DD, FD) -/
  | sbc_A_B
  /-- `SBC A,C` (R258): 99 (also after DD, FD) -/
  | sbc_A_C
  /-- `SBC A,D` (R258): 9A (also after DD, FD) -/
  | sbc_A_D
  /-- `SBC A,E` (R258): 9B (also after DD, FD) -/
  | sbc_A_E
  /-- `SBC A,H` (R258): 9C -/
  | sbc_A_H
  /-- `SBC A,L` (R258): 9D -/
  | sbc_A_L
  /-- `SBC A,(HL)` (R258): 9E -/
  | sbc_A_mHL
  /-- `SBC A,A` (R258): 9F (also after DD, FD) -/
  | sbc_A_A
  /-- `AND B` (R259): A0 (also after DD, FD) -/
  | and_B
  /-- `AND C` (R259): A1 (also after DD, FD) -/
  | and_C
  /-- `AND D` (R259): A2 (also after DD, FD) -/
  | and_D
  /-- `AND E` (R259): A3 (also after DD, FD) -/
  | and_E
  /-- `AND H` (R259): A4 -/
  | and_H
  /-- `AND L` (R259): A5 -/
  | and_L
  /-- `AND (HL)` (R259): A6 -/
  | and_mHL
  /-- `AND A` (R259): A7 (also after DD, FD) -/
  | and_A
  /-- `XOR B` (R260): A8 (also after DD, FD) -/
  | xor_B
  /-- `XOR C` (R260): A9 (also after DD, FD) -/
  | xor_C
  /-- `XOR D` (R260): AA (also after DD, FD) -/
  | xor_D
  /-- `XOR E` (R260): AB (also after DD, FD) -/
  | xor_E
  /-- `XOR H` (R260): AC -/
  | xor_H
  /-- `XOR L` (R260): AD -/
  | xor_L
  /-- `XOR (HL)` (R260): AE -/
  | xor_mHL
  /-- `XOR A` (R260): AF (also after DD, FD) -/
  | xor_A
  /-- `OR B` (R261): B0 (also after DD, FD) -/
  | or_B
  /-- `OR C` (R261): B1 (also after DD, FD) -/
  | or_C
  /-- `OR D` (R261): B2 (also after DD, FD) -/
  | or_D
  /-- `OR E` (R261): B3 (also after DD, FD) -/
  | or_E
  /-- `OR H` (R261): B4 -/
  | or_H
  /-- `OR L` (R261): B5 -/
  | or_L
  /-- `OR (HL)` (R261): B6 -/
  | or_mHL
  /-- `OR A` (R261): B7 (also after DD, FD) -/
  | or_A
  /-- `CP B` (R262): B8 (also after DD, FD) -/
  | cp_B
  /-- `CP C` (R262): B9 (also after DD, FD) -/
  | cp_C
  /-- `CP D` (R262): BA (also after DD, FD) -/
  | cp_D
  /-- `CP E` (R262): BB (also after DD, FD) -/
  | cp_E
  /-- `CP H` (R262): BC -/
  | cp_H
  /-- `CP L` (R262): BD -/
  | cp_L
  /-- `CP (HL)` (R262): BE -/
  | cp_mHL
  /-- `CP A` (R262): BF (also after DD, FD) -/
  | cp_A
  /-- `RET NZ` (R280): C0 (also after DD, FD) -/
  | ret_NZ
  /-- `POP BC` (R281): C1 (also after DD, FD) -/
  | pop_BC
  /-- `PUSH BC` (R295): C5 (also after DD, FD) -/
  | push_BC
  /-- `RST 00H` (R297): C7 (also after DD, FD) -/
  | rst_00H
  /-- `RET Z` (R280): C8 (also after DD, FD) -/
  | ret_Z
  /-- `RET` (R282): C9 (also after DD, FD) -/
  | ret
  /-- `RST 08H` (R297): CF (also after DD, FD) -/
  | rst_08H
  /-- `RET NC` (R280): D0 (also after DD, FD) -/
  | ret_NC
  /-- `POP DE` (R281): D1 (also after DD, FD) -/
  | pop_DE
  /-- `PUSH DE` (R295): D5 (also after DD, FD) -/
  | push_DE
  /-- `RST 10H` (R297): D7 (also after DD, FD) -/
  | rst_10H
  /-- `RET C` (R280): D8 (also after DD, FD) -/
  | ret_C
  /-- `EXX` (R283): D9 -/
  | exx
  /-- `RST 18H` (R297): DF (also after DD, FD) -/
  | rst_18H
  /-- `RET PO` (R280): E0 (also after DD, FD) -/
  | ret_PO
  /-- `POP HL` (R281): E1 -/
  | pop_HL
  /-- `EX (SP),HL` (R290): E3 -/
  | ex_mSP_HL
  /-- `PUSH HL` (R295): E5 -/
  | push_HL
  /-- `RST 20H` (R297): E7 (also after DD, FD) -/
  | rst_20H
  /-- `RET PE` (R280): E8 (also after DD, FD) -/
  | ret_PE
  /-- `JP (HL)` (R284): E9 -/
  | jp_mHL
  /-- `EX DE,HL` (R291): EB -/
  | ex_DE_HL
  /-- `RST 28H` (R297): EF (also after DD, FD) -/
  | rst_28H
  /-- `RET P` (R280): F0 (also after DD, FD) -/
  | ret_P
  /-- `POP AF` (R281): F1 (also after DD, FD) -/
  | pop_AF
  /-- `DI` (R292): F3 (also after DD, FD) -/
  | di
  /-- `PUSH AF` (R295): F5 (also after DD, FD) -/
  | push_AF
  /-- `RST 30H` (R297): F7 (also after DD, FD) -/
  | rst_30H
  /-- `RET M` (R280): F8 (also after DD, FD) -/
  | ret_M
  /-- `LD SP,HL` (R285): F9 -/
  | ld_SP_HL
  /-- `EI` (R293): FB (also after DD, FD) -/
  | ei
  /-- `RST 38H` (R297): FF (also after DD, FD) -/
  | rst_38H
  /-- `RLC B` (R331): CB 00 -/
  | rlc_B
  /-- `RLC C` (R331): CB 01 -/
  | rlc_C
  /-- `RLC D` (R331): CB 02 -/
  | rlc_D
  /-- `RLC E` (R331): CB 03 -/
  | rlc_E
  /-- `RLC H` (R331): CB 04 -/
  | rlc_H
  /-- `RLC L` (R331): CB 05 -/
  | rlc_L
  /-- `RLC (HL)` (R331): CB 06 -/
  | rlc_mHL
  /-- `RLC A` (R331): CB 07 -/
  | rlc_A
  /-- `RRC B` (R332): CB 08 -/
  | rrc_B
  /-- `RRC C` (R332): CB 09 -/
  | rrc_C
  /-- `RRC D` (R332): CB 0A -/
  | rrc_D
  /-- `RRC E` (R332): CB 0B -/
  | rrc_E
  /-- `RRC H` (R332): CB 0C -/
  | rrc_H
  /-- `RRC L` (R332): CB 0D -/
  | rrc_L
  /-- `RRC (HL)` (R332): CB 0E -/
  | rrc_mHL
  /-- `RRC A` (R332): CB 0F -/
  | rrc_A
  /-- `RL B` (R333): CB 10 -/
  | rl_B
  /-- `RL C` (R333): CB 11 -/
  | rl_C
  /-- `RL D` (R333): CB 12 -/
  | rl_D
  /-- `RL E` (R333): CB 13 -/
  | rl_E
  /-- `RL H` (R333): CB 14 -/
  | rl_H
  /-- `RL L` (R333): CB 15 -/
  | rl_L
  /-- `RL (HL)` (R333): CB 16 -/
  | rl_mHL
  /-- `RL A` (R333): CB 17 -/
  | rl_A
  /-- `RR B` (R334): CB 18 -/
  | rr_B
  /-- `RR C` (R334): CB 19 -/
  | rr_C
  /-- `RR D` (R334): CB 1A -/
  | rr_D
  /-- `RR E` (R334): CB 1B -/
  | rr_E
  /-- `RR H` (R334): CB 1C -/
  | rr_H
  /-- `RR L` (R334): CB 1D -/
  | rr_L
  /-- `RR (HL)` (R334): CB 1E -/
  | rr_mHL
  /-- `RR A` (R334): CB 1F -/
  | rr_A
  /-- `SLA B` (R335): CB 20 -/
  | sla_B
  /-- `SLA C` (R335): CB 21 -/
  | sla_C
  /-- `SLA D` (R335): CB 22 -/
  | sla_D
  /-- `SLA E` (R335): CB 23 -/
  | sla_E
  /-- `SLA H` (R335): CB 24 -/
  | sla_H
  /-- `SLA L` (R335): CB 25 -/
  | sla_L
  /-- `SLA (HL)` (R335): CB 26 -/
  | sla_mHL
  /-- `SLA A` (R335): CB 27 -/
  | sla_A
  /-- `SRA B` (R336): CB 28 -/
  | sra_B
  /-- `SRA C` (R336): CB 29 -/
  | sra_C
  /-- `SRA D` (R336): CB 2A -/
  | sra_D
  /-- `SRA E` (R336): CB 2B -/
  | sra_E
  /-- `SRA H` (R336): CB 2C -/
  | sra_H
  /-- `SRA L` (R336): CB 2D -/
  | sra_L
  /-- `SRA (HL)` (R336): CB 2E -/
  | sra_mHL
  /-- `SRA A` (R336): CB 2F -/
  | sra_A
  /-- `SRL B` (R337): CB 38 -/
  | srl_B
  /-- `SRL C` (R337): CB 39 -/
  | srl_C
  /-- `SRL D` (R337): CB 3A -/
  | srl_D
  /-- `SRL E` (R337): CB 3B -/
  | srl_E
  /-- `SRL H` (R337): CB 3C -/
  | srl_H
  /-- `SRL L` (R337): CB 3D -/
  | srl_L
  /-- `SRL (HL)` (R337): CB 3E -/
  | srl_mHL
  /-- `SRL A` (R337): CB 3F -/
  | srl_A
  /-- `BIT 0,B` (R338): CB 40 -/
  | bit_0_B
  /-- `BIT 0,C` (R338): CB 41 -/
  | bit_0_C
  /-- `BIT 0,D` (R338): CB 42 -/
  | bit_0_D
  /-- `BIT 0,E` (R338): CB 43 -/
  | bit_0_E
  /-- `BIT 0,H` (R338): CB 44 -/
  | bit_0_H
  /-- `BIT 0,L` (R338): CB 45 -/
  | bit_0_L
  /-- `BIT 0,(HL)` (R338): CB 46 -/
  | bit_0_mHL
  /-- `BIT 0,A` (R338): CB 47 -/
  | bit_0_A
  /-- `BIT 1,B` (R338): CB 48 -/
  | bit_1_B
  /-- `BIT 1,C` (R338): CB 49 -/
  | bit_1_C
  /-- `BIT 1,D` (R338): CB 4A -/
  | bit_1_D
  /-- `BIT 1,E` (R338): CB 4B -/
  | bit_1_E
  /-- `BIT 1,H` (R338): CB 4C -/
  | bit_1_H
  /-- `BIT 1,L` (R338): CB 4D -/
  | bit_1_L
  /-- `BIT 1,(HL)` (R338): CB 4E -/
  | bit_1_mHL
  /-- `BIT 1,A` (R338): CB 4F -/
  | bit_1_A
  /-- `BIT 2,B` (R338): CB 50 -/
  | bit_2_B
  /-- `BIT 2,C` (R338): CB 51 -/
  | bit_2_C
  /-- `BIT 2,D` (R338): CB 52 -/
  | bit_2_D
  /-- `BIT 2,E` (R338): CB 53 -/
  | bit_2_E
  /-- `BIT 2,H` (R338): CB 54 -/
  | bit_2_H
  /-- `BIT 2,L` (R338): CB 55 -/
  | bit_2_L
  /-- `BIT 2,(HL)` (R338): CB 56 -/
  | bit_2_mHL
  /-- `BIT 2,A` (R338): CB 57 -/
  | bit_2_A
  /-- `BIT 3,B` (R338): CB 58 -/
  | bit_3_B
  /-- `BIT 3,C` (R338): CB 59 -/
  | bit_3_C
  /-- `BIT 3,D` (R338): CB 5A -/
  | bit_3_D
  /-- `BIT 3,E` (R338): CB 5B -/
  | bit_3_E
  /-- `BIT 3,H` (R338): CB 5C -/
  | bit_3_H
  /-- `BIT 3,L` (R338): CB 5D -/
  | bit_3_L
  /-- `BIT 3,(HL)` (R338): CB 5E -/
  | bit_3_mHL
  /-- `BIT 3,A` (R338): CB 5F -/
  | bit_3_A
  /-- `BIT 4,B` (R338): CB 60 -/
  | bit_4_B
  /-- `BIT 4,C` (R338): CB 61 -/
  | bit_4_C
  /-- `BIT 4,D` (R338): CB 62 -/
  | bit_4_D
  /-- `BIT 4,E` (R338): CB 63 -/
  | bit_4_E
  /-- `BIT 4,H` (R338): CB 64 -/
  | bit_4_H
  /-- `BIT 4,L` (R338): CB 65 -/
  | bit_4_L
  /-- `BIT 4,(HL)` (R338): CB 66 -/
  | bit_4_mHL
  /-- `BIT 4,A` (R338): CB 67 -/
  | bit_4_A
  /-- `BIT 5,B` (R338): CB 68 -/
  | bit_5_B
  /-- `BIT 5,C` (R338): CB 69 -/
  | bit_5_C
  /-- `BIT 5,D` (R338): CB 6A -/
  | bit_5_D
  /-- `BIT 5,E` (R338): CB 6B -/
  | bit_5_E
  /-- `BIT 5,H` (R338): CB 6C -/
  | bit_5_H
  /-- `BIT 5,L` (R338): CB 6D -/
  | bit_5_L
  /-- `BIT 5,(HL)` (R338): CB 6E -/
  | bit_5_mHL
  /-- `BIT 5,A` (R338): CB 6F -/
  | bit_5_A
  /-- `BIT 6,B` (R338): CB 70 -/
  | bit_6_B
  /-- `BIT 6,C` (R338): CB 71 -/
  | bit_6_C
  /-- `BIT 6,D` (R338): CB 72 -/
  | bit_6_D
  /-- `BIT 6,E` (R338): CB 73 -/
  | bit_6_E
  /-- `BIT 6,H` (R338): CB 74 -/
  | bit_6_H
  /-- `BIT 6,L` (R338): CB 75 -/
  | bit_6_L
  /-- `BIT 6,(HL)` (R338): CB 76 -/
  | bit_6_mHL
  /-- `BIT 6,A` (R338): CB 77 -/
  | bit_6_A
  /-- `BIT 7,B` (R338): CB 78 -/
  | bit_7_B
  /-- `BIT 7,C` (R338): CB 79 -/
  | bit_7_C
  /-- `BIT 7,D` (R338): CB 7A -/
  | bit_7_D
  /-- `BIT 7,E` (R338): CB 7B -/
  | bit_7_E
  /-- `BIT 7,H` (R338): CB 7C -/
  | bit_7_H
  /-- `BIT 7,L` (R338): CB 7D -/
  | bit_7_L
  /-- `BIT 7,(HL)` (R338): CB 7E -/
  | bit_7_mHL
  /-- `BIT 7,A` (R338): CB 7F -/
  | bit_7_A
  /-- `RES 0,B` (R339): CB 80 -/
  | res_0_B
  /-- `RES 0,C` (R339): CB 81 -/
  | res_0_C
  /-- `RES 0,D` (R339): CB 82 -/
  | res_0_D
  /-- `RES 0,E` (R339): CB 83 -/
  | res_0_E
  /-- `RES 0,H` (R339): CB 84 -/
  | res_0_H
  /-- `RES 0,L` (R339): CB 85 -/
  | res_0_L
  /-- `RES 0,(HL)` (R339): CB 86 -/
  | res_0_mHL
  /-- `RES 0,A` (R339): CB 87 -/
  | res_0_A
  /-- `RES 1,B` (R339): CB 88 -/
  | res_1_B
  /-- `RES 1,C` (R339): CB 89 -/
  | res_1_C
  /-- `RES 1,D` (R339): CB 8A -/
  | res_1_D
  /-- `RES 1,E` (R339): CB 8B -/
  | res_1_E
  /-- `RES 1,H` (R339): CB 8C -/
  | res_1_H
  /-- `RES 1,L` (R339): CB 8D -/
  | res_1_L
  /-- `RES 1,(HL)` (R339): CB 8E -/
  | res_1_mHL
  /-- `RES 1,A` (R339): CB 8F -/
  | res_1_A
  /-- `RES 2,B` (R339): CB 90 -/
  | res_2_B
  /-- `RES 2,C` (R339): CB 91 -/
  | res_2_C
  /-- `RES 2,D` (R339): CB 92 -/
  | res_2_D
  /-- `RES 2,E` (R339): CB 93 -/
  | res_2_E
  /-- `RES 2,H` (R339): CB 94 -/
  | res_2_H
  /-- `RES 2,L` (R339): CB 95 -/
  | res_2_L
  /-- `RES 2,(HL)` (R339): CB 96 -/
  | res_2_mHL
  /-- `RES 2,A` (R339): CB 97 -/
  | res_2_A
  /-- `RES 3,B` (R339): CB 98 -/
  | res_3_B
  /-- `RES 3,C` (R339): CB 99 -/
  | res_3_C
  /-- `RES 3,D` (R339): CB 9A -/
  | res_3_D
  /-- `RES 3,E` (R339): CB 9B -/
  | res_3_E
  /-- `RES 3,H` (R339): CB 9C -/
  | res_3_H
  /-- `RES 3,L` (R339): CB 9D -/
  | res_3_L
  /-- `RES 3,(HL)` (R339): CB 9E -/
  | res_3_mHL
  /-- `RES 3,A` (R339): CB 9F -/
  | res_3_A
  /-- `RES 4,B` (R339): CB A0 -/
  | res_4_B
  /-- `RES 4,C` (R339): CB A1 -/
  | res_4_C
  /-- `RES 4,D` (R339): CB A2 -/
  | res_4_D
  /-- `RES 4,E` (R339): CB A3 -/
  | res_4_E
  /-- `RES 4,H` (R339): CB A4 -/
  | res_4_H
  /-- `RES 4,L` (R339): CB A5 -/
  | res_4_L
  /-- `RES 4,(HL)` (R339): CB A6 -/
  | res_4_mHL
  /-- `RES 4,A` (R339): CB A7 -/
  | res_4_A
  /-- `RES 5,B` (R339): CB A8 -/
  | res_5_B
  /-- `RES 5,C` (R339): CB A9 -/
  | res_5_C
  /-- `RES 5,D` (R339): CB AA -/
  | res_5_D
  /-- `RES 5,E` (R339): CB AB -/
  | res_5_E
  /-- `RES 5,H` (R339): CB AC -/
  | res_5_H
  /-- `RES 5,L` (R339): CB AD -/
  | res_5_L
  /-- `RES 5,(HL)` (R339): CB AE -/
  | res_5_mHL
  /-- `RES 5,A` (R339): CB AF -/
  | res_5_A
  /-- `RES 6,B` (R339): CB B0 -/
  | res_6_B
  /-- `RES 6,C` (R339): CB B1 -/
  | res_6_C
  /-- `RES 6,D` (R339): CB B2 -/
  | res_6_D
  /-- `RES 6,E` (R339): CB B3 -/
  | res_6_E
  /-- `RES 6,H` (R339): CB B4 -/
  | res_6_H
  /-- `RES 6,L` (R339): CB B5 -/
  | res_6_L
  /-- `RES 6,(HL)` (R339): CB B6 -/
  | res_6_mHL
  /-- `RES 6,A` (R339): CB B7 -/
  | res_6_A
  /-- `RES 7,B` (R339): CB B8 -/
  | res_7_B
  /-- `RES 7,C` (R339): CB B9 -/
  | res_7_C
  /-- `RES 7,D` (R339): CB BA -/
  | res_7_D
  /-- `RES 7,E` (R339): CB BB -/
  | res_7_E
  /-- `RES 7,H` (R339): CB BC -/
  | res_7_H
  /-- `RES 7,L` (R339): CB BD -/
  | res_7_L
  /-- `RES 7,(HL)` (R339): CB BE -/
  | res_7_mHL
  /-- `RES 7,A` (R339): CB BF -/
  | res_7_A
  /-- `SET 0,B` (R340): CB C0 -/
  | set_0_B
  /-- `SET 0,C` (R340): CB C1 -/
  | set_0_C
  /-- `SET 0,D` (R340): CB C2 -/
  | set_0_D
  /-- `SET 0,E` (R340): CB C3 -/
  | set_0_E
  /-- `SET 0,H` (R340): CB C4 -/
  | set_0_H
  /-- `SET 0,L` (R340): CB C5 -/
  | set_0_L
  /-- `SET 0,(HL)` (R340): CB C6 -/
  | set_0_mHL
  /-- `SET 0,A` (R340): CB C7 -/
  | set_0_A
  /-- `SET 1,B` (R340): CB C8 -/
  | set_1_B
  /-- `SET 1,C` (R340): CB C9 -/
  | set_1_C
  /-- `SET 1,D` (R340): CB CA -/
  | set_1_D
  /-- `SET 1,E` (R340): CB CB -/
  | set_1_E
  /-- `SET 1,H` (R340): CB CC -/
  | set_1_H
  /-- `SET 1,L` (R340): CB CD -/
  | set_1_L
  /-- `SET 1,(HL)` (R340): CB CE -/
  | set_1_mHL
  /-- `SET 1,A` (R340): CB CF -/
  | set_1_A
  /-- `SET 2,B` (R340): CB D0 -/
  | set_2_B
  /-- `SET 2,C` (R340): CB D1 -/
  | set_2_C
  /-- `SET 2,D` (R340): CB D2 -/
  | set_2_D
  /-- `SET 2,E` (R340): CB D3 -/
  | set_2_E
  /-- `SET 2,H` (R340): CB D4 -/
  | set_2_H
  /-- `SET 2,L` (R340): CB D5 -/
  | set_2_L
  /-- `SET 2,(HL)` (R340): CB D6 -/
  | set_2_mHL
  /-- `SET 2,A` (R340): CB D7 -/
  | set_2_A
  /-- `SET 3,B` (R340): CB D8 -/
  | set_3_B
  /-- `SET 3,C` (R340): CB D9 -/
  | set_3_C
  /-- `SET 3,D` (R340): CB DA -/
  | set_3_D
  /-- `SET 3,E` (R340): CB DB -/
  | set_3_E
  /-- `SET 3,H` (R340): CB DC -/
  | set_3_H
  /-- `SET 3,L` (R340): CB DD -/
  | set_3_L
  /-- `SET 3,(HL)` (R340): CB DE -/
  | set_3_mHL
  /-- `SET 3,A` (R340): CB DF -/
  | set_3_A
  /-- `SET 4,B` (R340): CB E0 -/
  | set_4_B
  /-- `SET 4,C` (R340): CB E1 -/
  | set_4_C
  /-- `SET 4,D` (R340): CB E2 -/
  | set_4_D
  /-- `SET 4,E` (R340): CB E3 -/
  | set_4_E
  /-- `SET 4,H` (R340): CB E4 -/
  | set_4_H
  /-- `SET 4,L` (R340): CB E5 -/
  | set_4_L
  /-- `SET 4,(HL)` (R340): CB E6 -/
  | set_4_mHL
  /-- `SET 4,A` (R340): CB E7 -/
  | set_4_A
  /-- `SET 5,B` (R340): CB E8 -/
  | set_5_B
  /-- `SET 5,C` (R340): CB E9 -/
  | set_5_C
  /-- `SET 5,D` (R340): CB EA -/
  | set_5_D
  /-- `SET 5,E` (R340): CB EB -/
  | set_5_E
  /-- `SET 5,H` (R340): CB EC -/
  | set_5_H
  /-- `SET 5,L` (R340): CB ED -/
  | set_5_L
  /-- `SET 5,(HL)` (R340): CB EE -/
  | set_5_mHL
  /-- `SET 5,A` (R340): CB EF -/
  | set_5_A
  /-- `SET 6,B` (R340): CB F0 -/
  | set_6_B
  /-- `SET 6,C` (R340): CB F1 -/
  | set_6_C
  /-- `SET 6,D` (R340): CB F2 -/
  | set_6_D
  /-- `SET 6,E` (R340): CB F3 -/
  | set_6_E
  /-- `SET 6,H` (R340): CB F4 -/
  | set_6_H
  /-- `SET 6,L` (R340): CB F5 -/
  | set_6_L
  /-- `SET 6,(HL)` (R340): CB F6 -/
  | set_6_mHL
  /-- `SET 6,A` (R340): CB F7 -/
  | set_6_A
  /-- `SET 7,B` (R340): CB F8 -/
  | set_7_B
  /-- `SET 7,C` (R340): CB F9 -/
  | set_7_C
  /-- `SET 7,D` (R340): CB FA -/
  | set_7_D
  /-- `SET 7,E` (R340): CB FB -/
  | set_7_E
  /-- `SET 7,H` (R340): CB FC -/
  | set_7_H
  /-- `SET 7,L` (R340): CB FD -/
  | set_7_L
  /-- `SET 7,(HL)` (R340): CB FE -/
  | set_7_mHL
  /-- `SET 7,A` (R340): CB FF -/
  | set_7_A
  /-- `IN B,(C)` (R350): ED 40 -/
  | in_B_pC
  /-- `OUT (C),B` (R351): ED 41 -/
  | out_pC_B
  /-- `SBC HL,BC` (R352): ED 42 -/
  | sbc_HL_BC
  /-- `NEG` (R360): ED 44 -/
  | neg
  /-- `RETN` (R361): ED 45 -/
  | retn
  /-- `IM 0` (R363): ED 46 -/
  | im_0
  /-- `LD I,A` (R364): ED 47 -/
  | ld_I_A
  /-- `IN C,(C)` (R350): ED 48 -/
  | in_C_pC
  /-- `OUT (C),C` (R351): ED 49 -/
  | out_pC_C
  /-- `ADC HL,BC` (R353): ED 4A -/
  | adc_HL_BC
  /-- `RETI` (R362): ED 4D -/
  | reti
  /-- `LD R,A` (R365): ED 4F -/
  | ld_R_A
  /-- `IN D,(C)` (R350): ED 50 -/
  | in_D_pC
  /-- `OUT (C),D` (R351): ED 51 -/
  | out_pC_D
  /-- `SBC HL,DE` (R352): ED 52 -/
  | sbc_HL_DE
  /-- `IM 1` (R363): ED 56 -/
  | im_1
  /-- `LD A,I` (R366): ED 57 -/
  | ld_A_I
  /-- `IN E,(C)` (R350): ED 58 -/
  | in_E_pC
  /-- `OUT (C),E` (R351): ED 59 -/
  | out_pC_E
  /-- `ADC HL,DE` (R353): ED 5A -/
  | adc_HL_DE
  /-- `IM 2` (R363): ED 5E -/
  | im_2
  /-- `LD A,R` (R367): ED 5F -/
  | ld_A_R
  /-- `IN H,(C)` (R350): ED 60 -/
  | in_H_pC
  /-- `OUT (C),H` (R351): ED 61 -/
  | out_pC_H
  /-- `SBC HL,HL` (R352): ED 62 -/
  | sbc_HL_HL
  /-- `RRD` (R368): ED 67 -/
  | rrd
  /-- `IN L,(C)` (R350): ED 68 -/
  | in_L_pC
  /-- `OUT (C),L` (R351): ED 69 -/
  | out_pC_L
  /-- `ADC HL,HL` (R353): ED 6A -/
  | adc_HL_HL
  /-- `RLD` (R369): ED 6F -/
  | rld
  /-- `SBC HL,SP` (R352): ED 72 -/
  | sbc_HL_SP
  /-- `IN A,(C)` (R350): ED 78 -/
  | in_A_pC
  /-- `OUT (C),A` (R351): ED 79 -/
  | out_pC_A
  /-- `ADC HL,SP` (R353): ED 7A -/
  | adc_HL_SP
  /-- `LDI` (R392): ED A0 -/
  | ldi
  /-- `CPI` (R396): ED A1 -/
  | cpi
  /-- `INI` (R400): ED A2 -/
  | ini
  /-- `OUTI` (R404): ED A3 -/
  | outi
  /-- `LDD` (R393): ED A8 -/
  | ldd
  /-- `CPD` (R397): ED A9 -/
  | cpd
  /-- `IND` (R401): ED AA -/
  | ind
  /-- `OUTD` (R405): ED AB -/
  | outd
  /-- `LDIR` (R394): ED B0 -/
  | ldir
  /-- `CPIR` (R398): ED B1 -/
  | cpir
  /-- `INIR` (R402): ED B2 -/
  | inir
  /-- `OTIR` (R406): ED B3 -/
  | otir
  /-- `LDDR` (R395): ED B8 -/
  | lddr
  /-- `CPDR` (R399): ED B9 -/
  | cpdr
  /-- `INDR` (R403): ED BA -/
  | indr
  /-- `OTDR` (R407): ED BB -/
  | otdr
  /-- `ADD IX,BC` (R207): DD 09 -/
  | add_IX_BC
  /-- `ADD IX,DE` (R207): DD 19 -/
  | add_IX_DE
  /-- `INC IX` (R216): DD 23 -/
  | inc_IX
  /-- `INC IXh` (R218): DD 24 -/
  | inc_IXh
  /-- `DEC IXh` (R219): DD 25 -/
  | dec_IXh
  /-- `ADD IX,IX` (R207): DD 29 -/
  | add_IX_IX
  /-- `DEC IX` (R217): DD 2B -/
  | dec_IX
  /-- `INC IXl` (R218): DD 2C -/
  | inc_IXl
  /-- `DEC IXl` (R219): DD 2D -/
  | dec_IXl
  /-- `ADD IX,SP` (R207): DD 39 -/
  | add_IX_SP
  /-- `LD B,IXh` (R250): DD 44 -/
  | ld_B_IXh
  /-- `LD B,IXl` (R250): DD 45 -/
  | ld_B_IXl
  /-- `LD C,IXh` (R250): DD 4C -/
  | ld_C_IXh
  /-- `LD C,IXl` (R250): DD 4D -/
  | ld_C_IXl
  /-- `LD D,IXh` (R250): DD 54 -/
  | ld_D_IXh
  /-- `LD D,IXl` (R250): DD 55 -/
  | ld_D_IXl
  /-- `LD E,IXh` (R250): DD 5C -/
  | ld_E_IXh
  /-- `LD E,IXl` (R250): DD 5D -/
  | ld_E_IXl
  /-- `LD IXh,B` (R250): DD 60 -/
  | ld_IXh_B
  /-- `LD IXh,C` (R250): DD 61 -/
  | ld_IXh_C
  /-- `LD IXh,D` (R250): DD 62 -/
  | ld_IXh_D
  /-- `LD IXh,E` (R250): DD 63 -/
  | ld_IXh_E
  /-- `LD IXh,IXh` (R250): DD 64 -/
  | ld_IXh_IXh
  /-- `LD IXh,IXl` (R250): DD 65 -/
  | ld_IXh_IXl
  /-- `LD IXh,A` (R250): DD 67 -/
  | ld_IXh_A
  /-- `LD IXl,B` (R250): DD 68 -/
  | ld_IXl_B
  /-- `LD IXl,C` (R250): DD 69 -/
  | ld_IXl_C
  /-- `LD IXl,D` (R250): DD 6A -/
  | ld_IXl_D
  /-- `LD IXl,E` (R250): DD 6B -/
  | ld_IXl_E
  /-- `LD IXl,IXh` (R250): DD 6C -/
  | ld_IXl_IXh
  /-- `LD IXl,IXl` (R250): DD 6D -/
  | ld_IXl_IXl
  /-- `LD IXl,A` (R250): DD 6F -/
  | ld_IXl_A
  /-- `LD A,IXh` (R250): DD 7C -/
  | ld_A_IXh
  /-- `LD A,IXl` (R250): DD 7D -/
  | ld_A_IXl
  /-- `ADD A,IXh` (R255): DD 84 -/
  | add_A_IXh
  /-- `ADD A,IXl` (R255): DD 85 -/
  | add_A_IXl
  /-- `ADC A,IXh` (R256): DD 8C -/
  | adc_A_IXh
  /-- `ADC A,IXl` (R256): DD 8D -/
  | adc_A_IXl
  /-- `SUB IXh` (R257): DD 94 -/
  | sub_IXh
  /-- `SUB IXl` (R257): DD 95 -/
  | sub_IXl
  /-- `SBC A,IXh` (R258): DD 9C -/
  | sbc_A_IXh
  /-- `SBC A,IXl` (R258): DD 9D -/
  | sbc_A_IXl
  /-- `AND IXh` (R259): DD A4 -/
  | and_IXh
  /-- `AND IXl` (R259): DD A5 -/
  | and_IXl
  /-- `XOR IXh` (R260): DD AC -/
  | xor_IXh
  /-- `XOR IXl` (R260): DD AD -/
  | xor_IXl
  /-- `OR IXh` (R261): DD B4 -/
  | or_IXh
  /-- `OR IXl` (R261): DD B5 -/
  | or_IXl
  /-- `CP IXh` (R262): DD BC -/
  | cp_IXh
  /-- `CP IXl` (R262): DD BD -/
  | cp_IXl
  /-- `POP IX` (R281): DD E1 -/
  | pop_IX
  /-- `EX (SP),IX` (R290): DD E3 -/
  | ex_mSP_IX
  /-- `PUSH IX` (R295): DD E5 -/
  | push_IX
  /-- `JP (IX)` (R284): DD E9 -/
  | jp_mIX
  /-- `LD SP,IX` (R285): DD F9 -/
  | ld_SP_IX
  /-- `ADD IY,BC` (R207): FD 09 -/
  | add_IY_BC
  /-- `ADD IY,DE` (R207): FD 19 -/
  | add_IY_DE
  /-- `INC IY` (R216): FD 23 -/
  | inc_IY
  /-- `INC IYh` (R218): FD 24 -/
  | inc_IYh
  /-- `DEC IYh` (R219): FD 25 -/
  | dec_IYh
  /-- `ADD IY,IY` (R207): FD 29 -/
  | add_IY_IY
  /-- `DEC IY` (R217): FD 2B -/
  | dec_IY
  /-- `INC IYl` (R218): FD 2C -/
  | inc_IYl
  /-- `DEC IYl` (R219): FD 2D -/
  | dec_IYl
  /-- `ADD IY,SP` (R207): FD 39 -/
  | add_IY_SP
  /-- `LD B,IYh` (R250): FD 44 -/
  | ld_B_IYh
  /-- `LD B,IYl` (R250): FD 45 -/
  | ld_B_IYl
  /-- `LD C,IYh` (R250): FD 4C -/
  | ld_C_IYh
  /-- `LD C,IYl` (R250): FD 4D -/
  | ld_C_IYl
  /-- `LD D,IYh` (R250): FD 54 -/
  | ld_D_IYh
  /-- `LD D,IYl` (R250): FD 55 -/
  | ld_D_IYl
  /-- `LD E,IYh` (R250): FD 5C -/
  | ld_E_IYh
  /-- `LD E,IYl` (R250): FD 5D -/
  | ld_E_IYl
  /-- `LD IYh,B` (R250): FD 60 -/
  | ld_IYh_B
  /-- `LD IYh,C` (R250): FD 61 -/
  | ld_IYh_C
  /-- `LD IYh,D` (R250): FD 62 -/
  | ld_IYh_D
  /-- `LD IYh,E` (R250): FD 63 -/
  | ld_IYh_E
  /-- `LD IYh,IYh` (R250): FD 64 -/
  | ld_IYh_IYh
  /-- `LD IYh,IYl` (R250): FD 65 -/
  | ld_IYh_IYl
  /-- `LD IYh,A` (R250): FD 67 -/
  | ld_IYh_A
  /-- `LD IYl,B` (R250): FD 68 -/
  | ld_IYl_B
  /-- `LD IYl,C` (R250): FD 69 -/
  | ld_IYl_C
  /-- `LD IYl,D` (R250): FD 6A -/
  | ld_IYl_D
  /-- `LD IYl,E` (R250): FD 6B -/
  | ld_IYl_E
  /-- `LD IYl,IYh` (R250): FD 6C -/
  | ld_IYl_IYh
  /-- `LD IYl,IYl` (R250): FD 6D -/
  | ld_IYl_IYl
  /-- `LD IYl,A` (R250): FD 6F -/
  | ld_IYl_A
  /-- `LD A,IYh` (R250): FD 7C -/
  | ld_A_IYh
  /-- `LD A,IYl` (R250): FD 7D -/
  | ld_A_IYl
  /-- `ADD A,IYh` (R255): FD 84 -/
  | add_A_IYh
  /-- `ADD A,IYl` (R255): FD 85 -/
  | add_A_IYl
  /-- `ADC A,IYh` (R256): FD 8C -/
  | adc_A_IYh
  /-- `ADC A,IYl` (R256): FD 8D -/
  | adc_A_IYl
  /-- `SUB IYh` (R257): FD 94 -/
  | sub_IYh
  /-- `SUB IYl` (R257): FD 95 -/
  | sub_IYl
  /-- `SBC A,IYh` (R258): FD 9C -/
  | sbc_A_IYh
  /-- `SBC A,IYl` (R258): FD 9D -/
  | sbc_A_IYl
  /-- `AND IYh` (R259): FD A4 -/
  | and_IYh
  /-- `AND IYl` (R259): FD A5 -/
  | and_IYl
  /-- `XOR IYh` (R260): FD AC -/
  | xor_IYh
  /-- `XOR IYl` (R260): FD AD -/
  | xor_IYl
  /-- `OR IYh` (R261): FD B4 -/
  | or_IYh
  /-- `OR IYl` (R261): FD B5 -/
  | or_IYl
  /-- `CP IYh` (R262): FD BC -/
  | cp_IYh
  /-- `CP IYl` (R262): FD BD -/
  | cp_IYl
  /-- `POP IY` (R281): FD E1 -/
  | pop_IY
  /-- `EX (SP),IY` (R290): FD E3 -/
  | ex_mSP_IY
  /-- `PUSH IY` (R295): FD E5 -/
  | push_IY
  /-- `JP (IY)` (R284): FD E9 -/
  | jp_mIY
  /-- `LD SP,IY` (R285): FD F9 -/
  | ld_SP_IY
  deriving DecidableEq, Repr

end Sys2Proof
end

