-- ==== Sys2Proof/WellFormed.lean ====
section
/-! DEFINITION. Which byte strings are well-formed encodings: the admitted set (30_encoding.md R96), written
from the list of faults of R114 and 60_exceptions.md R481 and not from the decoder. A term of `Instr` is
well-formed by its type (its operands are bytes, words and an index context, and R96 to R99 forbid no value of
one), so the checks are on bytes; each is smoke-tested with ill-formed bytes in Sys2Proof/Tests/Slice0.lean. -/

namespace Sys2Proof

/-- The byte after CB: every byte but the SLL cells 30 to 37 (R94, R111, R114). -/
def admittedCB (op : Byte) : Bool :=
  !(decide (0x30 ≤ op.toNat) && decide (op.toNat ≤ 0x37))

/-- The 58 admitted bytes after ED, row by row of the map R112. -/
def admittedEDBytes : List Byte :=
  [0x40, 0x41, 0x42, 0x43, 0x44, 0x45, 0x46, 0x47, 0x48, 0x49, 0x4A, 0x4B, 0x4D, 0x4F] ++
  [0x50, 0x51, 0x52, 0x53, 0x56, 0x57, 0x58, 0x59, 0x5A, 0x5B, 0x5E, 0x5F] ++
  [0x60, 0x61, 0x62, 0x63, 0x67, 0x68, 0x69, 0x6A, 0x6B, 0x6F] ++
  [0x72, 0x73, 0x78, 0x79, 0x7A, 0x7B] ++
  [0xA0, 0xA1, 0xA2, 0xA3, 0xA8, 0xA9, 0xAA, 0xAB] ++
  [0xB0, 0xB1, 0xB2, 0xB3, 0xB8, 0xB9, 0xBA, 0xBB]

/-- The byte after ED: the cells of R112 not marked FAULT (R95, R114). -/
def admittedED (op : Byte) : Bool :=
  decide (op ∈ admittedEDBytes)

/-- The byte after DD or FD: every byte but DD, FD, ED, EB, D9 (47_index_prefix.md R426). CB starts the indexed
CB form, which has a check of its own. -/
def admittedIndex (b : Byte) : Bool :=
  !(decide (b ∈ ([0xDD, 0xFD, 0xED, 0xEB, 0xD9] : List Byte)))

/-- The last byte of DD CB d op and FD CB d op: z = 6 and not 36 (R430). -/
def admittedIndexedCB (op : Byte) : Bool :=
  decide (op.toNat % 8 = 6) && decide (op ≠ 0x36)

/-- Does the byte string begin with the opcode bytes of an admitted instruction (R96)? Operand bytes are free. -/
def admitted : List Byte → Bool
  | [] => false
  | b :: bs =>
    if b = 0xCB then
      match bs with
      | op :: _ => admittedCB op
      | [] => false
    else if b = 0xED then
      match bs with
      | op :: _ => admittedED op
      | [] => false
    else if b = 0xDD ∨ b = 0xFD then
      match bs with
      | [] => false
      | b2 :: bs2 =>
        if b2 = 0xCB then
          match bs2 with
          | _ :: op :: _ => admittedIndexedCB op
          | _ => false
        else admittedIndex b2
    else true

end Sys2Proof
end

