-- ==== Sys2Proof/Decode.lean ====
section
/-! DEFINITION. The decoder (30_encoding.md R91 to R103, 47_index_prefix.md R420 to R430) as a tree that asks for one
byte at a time, total on any bytes and rejecting by name; the encoder, written row by row from
spec/opcode_table.json; and the table's own numbering of an encoding's bits. The functions `mk<Family>` name the
instruction of a table cell by its operand codes and its index context. -/

namespace Sys2Proof

open Sys2Proof.Machine

/-- LD r[y],r[z] under a context (42_base_x1_x2.md R250, 47_index_prefix.md R423). -/
def mkLdRR (x : Ctx) (dst : Reg8) (src : Reg8) : Instr :=
  match dst, src with
  | .b, .b => .ld_B_B
  | .b, .c => .ld_B_C
  | .b, .d => .ld_B_D
  | .b, .e => .ld_B_E
  | .b, .h => x.pick .ld_B_H .ld_B_IXh .ld_B_IYh
  | .b, .l => x.pick .ld_B_L .ld_B_IXl .ld_B_IYl
  | .b, .a => .ld_B_A
  | .c, .b => .ld_C_B
  | .c, .c => .ld_C_C
  | .c, .d => .ld_C_D
  | .c, .e => .ld_C_E
  | .c, .h => x.pick .ld_C_H .ld_C_IXh .ld_C_IYh
  | .c, .l => x.pick .ld_C_L .ld_C_IXl .ld_C_IYl
  | .c, .a => .ld_C_A
  | .d, .b => .ld_D_B
  | .d, .c => .ld_D_C
  | .d, .d => .ld_D_D
  | .d, .e => .ld_D_E
  | .d, .h => x.pick .ld_D_H .ld_D_IXh .ld_D_IYh
  | .d, .l => x.pick .ld_D_L .ld_D_IXl .ld_D_IYl
  | .d, .a => .ld_D_A
  | .e, .b => .ld_E_B
  | .e, .c => .ld_E_C
  | .e, .d => .ld_E_D
  | .e, .e => .ld_E_E
  | .e, .h => x.pick .ld_E_H .ld_E_IXh .ld_E_IYh
  | .e, .l => x.pick .ld_E_L .ld_E_IXl .ld_E_IYl
  | .e, .a => .ld_E_A
  | .h, .b => x.pick .ld_H_B .ld_IXh_B .ld_IYh_B
  | .h, .c => x.pick .ld_H_C .ld_IXh_C .ld_IYh_C
  | .h, .d => x.pick .ld_H_D .ld_IXh_D .ld_IYh_D
  | .h, .e => x.pick .ld_H_E .ld_IXh_E .ld_IYh_E
  | .h, .h => x.pick .ld_H_H .ld_IXh_IXh .ld_IYh_IYh
  | .h, .l => x.pick .ld_H_L .ld_IXh_IXl .ld_IYh_IYl
  | .h, .a => x.pick .ld_H_A .ld_IXh_A .ld_IYh_A
  | .l, .b => x.pick .ld_L_B .ld_IXl_B .ld_IYl_B
  | .l, .c => x.pick .ld_L_C .ld_IXl_C .ld_IYl_C
  | .l, .d => x.pick .ld_L_D .ld_IXl_D .ld_IYl_D
  | .l, .e => x.pick .ld_L_E .ld_IXl_E .ld_IYl_E
  | .l, .h => x.pick .ld_L_H .ld_IXl_IXh .ld_IYl_IYh
  | .l, .l => x.pick .ld_L_L .ld_IXl_IXl .ld_IYl_IYl
  | .l, .a => x.pick .ld_L_A .ld_IXl_A .ld_IYl_A
  | .a, .b => .ld_A_B
  | .a, .c => .ld_A_C
  | .a, .d => .ld_A_D
  | .a, .e => .ld_A_E
  | .a, .h => x.pick .ld_A_H .ld_A_IXh .ld_A_IYh
  | .a, .l => x.pick .ld_A_L .ld_A_IXl .ld_A_IYl
  | .a, .a => .ld_A_A

/-- LD r,(HL) or LD r,(IX+d) (R251); `d` counts only under IX or IY. -/
def mkLdRM (x : Ctx) (r : Reg8) (d : Byte) : Instr :=
  match r with
  | .b => x.pick .ld_B_mHL (.ld_B_mIXd d) (.ld_B_mIYd d)
  | .c => x.pick .ld_C_mHL (.ld_C_mIXd d) (.ld_C_mIYd d)
  | .d => x.pick .ld_D_mHL (.ld_D_mIXd d) (.ld_D_mIYd d)
  | .e => x.pick .ld_E_mHL (.ld_E_mIXd d) (.ld_E_mIYd d)
  | .h => x.pick .ld_H_mHL (.ld_H_mIXd d) (.ld_H_mIYd d)
  | .l => x.pick .ld_L_mHL (.ld_L_mIXd d) (.ld_L_mIYd d)
  | .a => x.pick .ld_A_mHL (.ld_A_mIXd d) (.ld_A_mIYd d)

/-- LD (HL),r or LD (IX+d),r (R252). -/
def mkLdMR (x : Ctx) (r : Reg8) (d : Byte) : Instr :=
  match r with
  | .b => x.pick .ld_mHL_B (.ld_mIXd_B d) (.ld_mIYd_B d)
  | .c => x.pick .ld_mHL_C (.ld_mIXd_C d) (.ld_mIYd_C d)
  | .d => x.pick .ld_mHL_D (.ld_mIXd_D d) (.ld_mIYd_D d)
  | .e => x.pick .ld_mHL_E (.ld_mIXd_E d) (.ld_mIYd_E d)
  | .h => x.pick .ld_mHL_H (.ld_mIXd_H d) (.ld_mIYd_H d)
  | .l => x.pick .ld_mHL_L (.ld_mIXd_L d) (.ld_mIYd_L d)
  | .a => x.pick .ld_mHL_A (.ld_mIXd_A d) (.ld_mIYd_A d)

/-- LD r,n under a context (R220). -/
def mkLdRN (x : Ctx) (r : Reg8) (n : Byte) : Instr :=
  match r with
  | .b => .ld_B_n n
  | .c => .ld_C_n n
  | .d => .ld_D_n n
  | .e => .ld_E_n n
  | .h => x.pick (.ld_H_n n) (.ld_IXh_n n) (.ld_IYh_n n)
  | .l => x.pick (.ld_L_n n) (.ld_IXl_n n) (.ld_IYl_n n)
  | .a => .ld_A_n n

/-- LD (HL),n or LD (IX+d),n (R221). -/
def mkLdMN (x : Ctx) (d : Byte) (n : Byte) : Instr :=
  x.pick (.ld_mHL_n n) (.ld_mIXd_n d n) (.ld_mIYd_n d n)

/-- LD rp,nn under a context (R206). -/
def mkLdRpNn (x : Ctx) (p : Rp) (nn : Word) : Instr :=
  match p with
  | .bc => .ld_BC_nn nn
  | .de => .ld_DE_nn nn
  | .hl => x.pick (.ld_HL_nn nn) (.ld_IX_nn nn) (.ld_IY_nn nn)
  | .sp => .ld_SP_nn nn

/-- LD (nn),HL, LD (nn),IX, LD (nn),IY (R210). -/
def mkLdNnHl (x : Ctx) (nn : Word) : Instr :=
  x.pick (.ld_mnn_HL nn) (.ld_mnn_IX nn) (.ld_mnn_IY nn)

/-- LD HL,(nn), LD IX,(nn), LD IY,(nn) (R214). -/
def mkLdHlNn (x : Ctx) (nn : Word) : Instr :=
  x.pick (.ld_HL_mnn nn) (.ld_IX_mnn nn) (.ld_IY_mnn nn)

/-- LD (nn),rp of the ED table (R354). -/
def mkLdNnRp (p : Rp) (nn : Word) : Instr :=
  match p with
  | .bc => .ld_mnn_BC nn
  | .de => .ld_mnn_DE nn
  | .hl => .ld_mnn_HL_ed nn
  | .sp => .ld_mnn_SP nn

/-- LD rp,(nn) of the ED table (R355). -/
def mkLdRpNnMem (p : Rp) (nn : Word) : Instr :=
  match p with
  | .bc => .ld_BC_mnn nn
  | .de => .ld_DE_mnn nn
  | .hl => .ld_HL_mnn_ed nn
  | .sp => .ld_SP_mnn nn

/-- LD SP,HL, LD SP,IX, LD SP,IY (R285). -/
def mkLdSpHl (x : Ctx) : Instr :=
  x.pick .ld_SP_HL .ld_SP_IX .ld_SP_IY

/-- alu[y] r[z] under a context (R254 to R262). -/
def mkAluR (x : Ctx) (op : AluOp) (r : Reg8) : Instr :=
  match op, r with
  | .add, .b => .add_A_B
  | .add, .c => .add_A_C
  | .add, .d => .add_A_D
  | .add, .e => .add_A_E
  | .add, .h => x.pick .add_A_H .add_A_IXh .add_A_IYh
  | .add, .l => x.pick .add_A_L .add_A_IXl .add_A_IYl
  | .add, .a => .add_A_A
  | .adc, .b => .adc_A_B
  | .adc, .c => .adc_A_C
  | .adc, .d => .adc_A_D
  | .adc, .e => .adc_A_E
  | .adc, .h => x.pick .adc_A_H .adc_A_IXh .adc_A_IYh
  | .adc, .l => x.pick .adc_A_L .adc_A_IXl .adc_A_IYl
  | .adc, .a => .adc_A_A
  | .sub, .b => .sub_B
  | .sub, .c => .sub_C
  | .sub, .d => .sub_D
  | .sub, .e => .sub_E
  | .sub, .h => x.pick .sub_H .sub_IXh .sub_IYh
  | .sub, .l => x.pick .sub_L .sub_IXl .sub_IYl
  | .sub, .a => .sub_A
  | .sbc, .b => .sbc_A_B
  | .sbc, .c => .sbc_A_C
  | .sbc, .d => .sbc_A_D
  | .sbc, .e => .sbc_A_E
  | .sbc, .h => x.pick .sbc_A_H .sbc_A_IXh .sbc_A_IYh
  | .sbc, .l => x.pick .sbc_A_L .sbc_A_IXl .sbc_A_IYl
  | .sbc, .a => .sbc_A_A
  | .and, .b => .and_B
  | .and, .c => .and_C
  | .and, .d => .and_D
  | .and, .e => .and_E
  | .and, .h => x.pick .and_H .and_IXh .and_IYh
  | .and, .l => x.pick .and_L .and_IXl .and_IYl
  | .and, .a => .and_A
  | .xor, .b => .xor_B
  | .xor, .c => .xor_C
  | .xor, .d => .xor_D
  | .xor, .e => .xor_E
  | .xor, .h => x.pick .xor_H .xor_IXh .xor_IYh
  | .xor, .l => x.pick .xor_L .xor_IXl .xor_IYl
  | .xor, .a => .xor_A
  | .or, .b => .or_B
  | .or, .c => .or_C
  | .or, .d => .or_D
  | .or, .e => .or_E
  | .or, .h => x.pick .or_H .or_IXh .or_IYh
  | .or, .l => x.pick .or_L .or_IXl .or_IYl
  | .or, .a => .or_A
  | .cp, .b => .cp_B
  | .cp, .c => .cp_C
  | .cp, .d => .cp_D
  | .cp, .e => .cp_E
  | .cp, .h => x.pick .cp_H .cp_IXh .cp_IYh
  | .cp, .l => x.pick .cp_L .cp_IXl .cp_IYl
  | .cp, .a => .cp_A

/-- alu[y] (HL) or alu[y] (IX+d) (R254 to R262). -/
def mkAluM (x : Ctx) (op : AluOp) (d : Byte) : Instr :=
  match op with
  | .add => x.pick .add_A_mHL (.add_A_mIXd d) (.add_A_mIYd d)
  | .adc => x.pick .adc_A_mHL (.adc_A_mIXd d) (.adc_A_mIYd d)
  | .sub => x.pick .sub_mHL (.sub_mIXd d) (.sub_mIYd d)
  | .sbc => x.pick .sbc_A_mHL (.sbc_A_mIXd d) (.sbc_A_mIYd d)
  | .and => x.pick .and_mHL (.and_mIXd d) (.and_mIYd d)
  | .xor => x.pick .xor_mHL (.xor_mIXd d) (.xor_mIYd d)
  | .or => x.pick .or_mHL (.or_mIXd d) (.or_mIYd d)
  | .cp => x.pick .cp_mHL (.cp_mIXd d) (.cp_mIYd d)

/-- alu[y] n (R254 to R262). -/
def mkAluN (op : AluOp) (n : Byte) : Instr :=
  match op with
  | .add => .add_A_n n
  | .adc => .adc_A_n n
  | .sub => .sub_n n
  | .sbc => .sbc_A_n n
  | .and => .and_n n
  | .xor => .xor_n n
  | .or => .or_n n
  | .cp => .cp_n n

/-- INC r under a context (R218). -/
def mkIncR (x : Ctx) (r : Reg8) : Instr :=
  match r with
  | .b => .inc_B
  | .c => .inc_C
  | .d => .inc_D
  | .e => .inc_E
  | .h => x.pick .inc_H .inc_IXh .inc_IYh
  | .l => x.pick .inc_L .inc_IXl .inc_IYl
  | .a => .inc_A

/-- DEC r under a context (R219). -/
def mkDecR (x : Ctx) (r : Reg8) : Instr :=
  match r with
  | .b => .dec_B
  | .c => .dec_C
  | .d => .dec_D
  | .e => .dec_E
  | .h => x.pick .dec_H .dec_IXh .dec_IYh
  | .l => x.pick .dec_L .dec_IXl .dec_IYl
  | .a => .dec_A

/-- INC (HL) or INC (IX+d) (R218). -/
def mkIncM (x : Ctx) (d : Byte) : Instr :=
  x.pick .inc_mHL (.inc_mIXd d) (.inc_mIYd d)

/-- DEC (HL) or DEC (IX+d) (R219). -/
def mkDecM (x : Ctx) (d : Byte) : Instr :=
  x.pick .dec_mHL (.dec_mIXd d) (.dec_mIYd d)

/-- ADD HL,rp, ADD IX,rp, ADD IY,rp (R207, R421). -/
def mkAddHl (x : Ctx) (p : Rp) : Instr :=
  match p with
  | .bc => x.pick .add_HL_BC .add_IX_BC .add_IY_BC
  | .de => x.pick .add_HL_DE .add_IX_DE .add_IY_DE
  | .hl => x.pick .add_HL_HL .add_IX_IX .add_IY_IY
  | .sp => x.pick .add_HL_SP .add_IX_SP .add_IY_SP

/-- INC rp under a context (R216). -/
def mkIncRp (x : Ctx) (p : Rp) : Instr :=
  match p with
  | .bc => .inc_BC
  | .de => .inc_DE
  | .hl => x.pick .inc_HL .inc_IX .inc_IY
  | .sp => .inc_SP

/-- DEC rp under a context (R217). -/
def mkDecRp (x : Ctx) (p : Rp) : Instr :=
  match p with
  | .bc => .dec_BC
  | .de => .dec_DE
  | .hl => x.pick .dec_HL .dec_IX .dec_IY
  | .sp => .dec_SP

/-- ADC HL,rp (R353). -/
def mkAdcHl (p : Rp) : Instr :=
  match p with
  | .bc => .adc_HL_BC
  | .de => .adc_HL_DE
  | .hl => .adc_HL_HL
  | .sp => .adc_HL_SP

/-- SBC HL,rp (R352). -/
def mkSbcHl (p : Rp) : Instr :=
  match p with
  | .bc => .sbc_HL_BC
  | .de => .sbc_HL_DE
  | .hl => .sbc_HL_HL
  | .sp => .sbc_HL_SP

/-- JR cc,e (R205). -/
def mkJrCc (c : JrCond) (e : Byte) : Instr :=
  match c with
  | .nz => .jr_NZ_e e
  | .z => .jr_Z_e e
  | .nc => .jr_NC_e e
  | .c => .jr_C_e e

/-- JP cc,nn (R286). -/
def mkJpCc (c : Cond) (nn : Word) : Instr :=
  match c with
  | .nz => .jp_NZ_nn nn
  | .z => .jp_Z_nn nn
  | .nc => .jp_NC_nn nn
  | .c => .jp_C_nn nn
  | .po => .jp_PO_nn nn
  | .pe => .jp_PE_nn nn
  | .p => .jp_P_nn nn
  | .m => .jp_M_nn nn

/-- JP (HL), JP (IX), JP (IY) (R284). -/
def mkJpHl (x : Ctx) : Instr :=
  x.pick .jp_mHL .jp_mIX .jp_mIY

/-- CALL cc,nn (R294). -/
def mkCallCc (c : Cond) (nn : Word) : Instr :=
  match c with
  | .nz => .call_NZ_nn nn
  | .z => .call_Z_nn nn
  | .nc => .call_NC_nn nn
  | .c => .call_C_nn nn
  | .po => .call_PO_nn nn
  | .pe => .call_PE_nn nn
  | .p => .call_P_nn nn
  | .m => .call_M_nn nn

/-- RST y*8 (R297). -/
def mkRst (y : Idx8) : Instr :=
  match y with
  | .i0 => .rst_00H
  | .i1 => .rst_08H
  | .i2 => .rst_10H
  | .i3 => .rst_18H
  | .i4 => .rst_20H
  | .i5 => .rst_28H
  | .i6 => .rst_30H
  | .i7 => .rst_38H

/-- RET cc (R280). -/
def mkRetCc (c : Cond) : Instr :=
  match c with
  | .nz => .ret_NZ
  | .z => .ret_Z
  | .nc => .ret_NC
  | .c => .ret_C
  | .po => .ret_PO
  | .pe => .ret_PE
  | .p => .ret_P
  | .m => .ret_M

/-- PUSH rp2 under a context (R295). -/
def mkPush (x : Ctx) (p : Rp2) : Instr :=
  match p with
  | .bc => .push_BC
  | .de => .push_DE
  | .hl => x.pick .push_HL .push_IX .push_IY
  | .af => .push_AF

/-- POP rp2 under a context (R281). -/
def mkPop (x : Ctx) (p : Rp2) : Instr :=
  match p with
  | .bc => .pop_BC
  | .de => .pop_DE
  | .hl => x.pick .pop_HL .pop_IX .pop_IY
  | .af => .pop_AF

/-- EX (SP),HL, EX (SP),IX, EX (SP),IY (R290). -/
def mkExSp (x : Ctx) : Instr :=
  x.pick .ex_mSP_HL .ex_mSP_IX .ex_mSP_IY

/-- rot[y] r[z] of the CB table (R331 to R337). -/
def mkRotR (op : RotOp) (r : Reg8) : Instr :=
  match op, r with
  | .rlc, .b => .rlc_B
  | .rlc, .c => .rlc_C
  | .rlc, .d => .rlc_D
  | .rlc, .e => .rlc_E
  | .rlc, .h => .rlc_H
  | .rlc, .l => .rlc_L
  | .rlc, .a => .rlc_A
  | .rrc, .b => .rrc_B
  | .rrc, .c => .rrc_C
  | .rrc, .d => .rrc_D
  | .rrc, .e => .rrc_E
  | .rrc, .h => .rrc_H
  | .rrc, .l => .rrc_L
  | .rrc, .a => .rrc_A
  | .rl, .b => .rl_B
  | .rl, .c => .rl_C
  | .rl, .d => .rl_D
  | .rl, .e => .rl_E
  | .rl, .h => .rl_H
  | .rl, .l => .rl_L
  | .rl, .a => .rl_A
  | .rr, .b => .rr_B
  | .rr, .c => .rr_C
  | .rr, .d => .rr_D
  | .rr, .e => .rr_E
  | .rr, .h => .rr_H
  | .rr, .l => .rr_L
  | .rr, .a => .rr_A
  | .sla, .b => .sla_B
  | .sla, .c => .sla_C
  | .sla, .d => .sla_D
  | .sla, .e => .sla_E
  | .sla, .h => .sla_H
  | .sla, .l => .sla_L
  | .sla, .a => .sla_A
  | .sra, .b => .sra_B
  | .sra, .c => .sra_C
  | .sra, .d => .sra_D
  | .sra, .e => .sra_E
  | .sra, .h => .sra_H
  | .sra, .l => .sra_L
  | .sra, .a => .sra_A
  | .srl, .b => .srl_B
  | .srl, .c => .srl_C
  | .srl, .d => .srl_D
  | .srl, .e => .srl_E
  | .srl, .h => .srl_H
  | .srl, .l => .srl_L
  | .srl, .a => .srl_A

/-- rot[y] (HL) or rot[y] (IX+d) (R331 to R337, R429). -/
def mkRotM (x : Ctx) (op : RotOp) (d : Byte) : Instr :=
  match op with
  | .rlc => x.pick .rlc_mHL (.rlc_mIXd d) (.rlc_mIYd d)
  | .rrc => x.pick .rrc_mHL (.rrc_mIXd d) (.rrc_mIYd d)
  | .rl => x.pick .rl_mHL (.rl_mIXd d) (.rl_mIYd d)
  | .rr => x.pick .rr_mHL (.rr_mIXd d) (.rr_mIYd d)
  | .sla => x.pick .sla_mHL (.sla_mIXd d) (.sla_mIYd d)
  | .sra => x.pick .sra_mHL (.sra_mIXd d) (.sra_mIYd d)
  | .srl => x.pick .srl_mHL (.srl_mIXd d) (.srl_mIYd d)

/-- BIT y,r (R338). -/
def mkBitR (y : Idx8) (r : Reg8) : Instr :=
  match y, r with
  | .i0, .b => .bit_0_B
  | .i0, .c => .bit_0_C
  | .i0, .d => .bit_0_D
  | .i0, .e => .bit_0_E
  | .i0, .h => .bit_0_H
  | .i0, .l => .bit_0_L
  | .i0, .a => .bit_0_A
  | .i1, .b => .bit_1_B
  | .i1, .c => .bit_1_C
  | .i1, .d => .bit_1_D
  | .i1, .e => .bit_1_E
  | .i1, .h => .bit_1_H
  | .i1, .l => .bit_1_L
  | .i1, .a => .bit_1_A
  | .i2, .b => .bit_2_B
  | .i2, .c => .bit_2_C
  | .i2, .d => .bit_2_D
  | .i2, .e => .bit_2_E
  | .i2, .h => .bit_2_H
  | .i2, .l => .bit_2_L
  | .i2, .a => .bit_2_A
  | .i3, .b => .bit_3_B
  | .i3, .c => .bit_3_C
  | .i3, .d => .bit_3_D
  | .i3, .e => .bit_3_E
  | .i3, .h => .bit_3_H
  | .i3, .l => .bit_3_L
  | .i3, .a => .bit_3_A
  | .i4, .b => .bit_4_B
  | .i4, .c => .bit_4_C
  | .i4, .d => .bit_4_D
  | .i4, .e => .bit_4_E
  | .i4, .h => .bit_4_H
  | .i4, .l => .bit_4_L
  | .i4, .a => .bit_4_A
  | .i5, .b => .bit_5_B
  | .i5, .c => .bit_5_C
  | .i5, .d => .bit_5_D
  | .i5, .e => .bit_5_E
  | .i5, .h => .bit_5_H
  | .i5, .l => .bit_5_L
  | .i5, .a => .bit_5_A
  | .i6, .b => .bit_6_B
  | .i6, .c => .bit_6_C
  | .i6, .d => .bit_6_D
  | .i6, .e => .bit_6_E
  | .i6, .h => .bit_6_H
  | .i6, .l => .bit_6_L
  | .i6, .a => .bit_6_A
  | .i7, .b => .bit_7_B
  | .i7, .c => .bit_7_C
  | .i7, .d => .bit_7_D
  | .i7, .e => .bit_7_E
  | .i7, .h => .bit_7_H
  | .i7, .l => .bit_7_L
  | .i7, .a => .bit_7_A

/-- BIT y,(HL) or BIT y,(IX+d) (R338, R429). -/
def mkBitM (x : Ctx) (y : Idx8) (d : Byte) : Instr :=
  match y with
  | .i0 => x.pick .bit_0_mHL (.bit_0_mIXd d) (.bit_0_mIYd d)
  | .i1 => x.pick .bit_1_mHL (.bit_1_mIXd d) (.bit_1_mIYd d)
  | .i2 => x.pick .bit_2_mHL (.bit_2_mIXd d) (.bit_2_mIYd d)
  | .i3 => x.pick .bit_3_mHL (.bit_3_mIXd d) (.bit_3_mIYd d)
  | .i4 => x.pick .bit_4_mHL (.bit_4_mIXd d) (.bit_4_mIYd d)
  | .i5 => x.pick .bit_5_mHL (.bit_5_mIXd d) (.bit_5_mIYd d)
  | .i6 => x.pick .bit_6_mHL (.bit_6_mIXd d) (.bit_6_mIYd d)
  | .i7 => x.pick .bit_7_mHL (.bit_7_mIXd d) (.bit_7_mIYd d)

/-- RES y,r (R339). -/
def mkResR (y : Idx8) (r : Reg8) : Instr :=
  match y, r with
  | .i0, .b => .res_0_B
  | .i0, .c => .res_0_C
  | .i0, .d => .res_0_D
  | .i0, .e => .res_0_E
  | .i0, .h => .res_0_H
  | .i0, .l => .res_0_L
  | .i0, .a => .res_0_A
  | .i1, .b => .res_1_B
  | .i1, .c => .res_1_C
  | .i1, .d => .res_1_D
  | .i1, .e => .res_1_E
  | .i1, .h => .res_1_H
  | .i1, .l => .res_1_L
  | .i1, .a => .res_1_A
  | .i2, .b => .res_2_B
  | .i2, .c => .res_2_C
  | .i2, .d => .res_2_D
  | .i2, .e => .res_2_E
  | .i2, .h => .res_2_H
  | .i2, .l => .res_2_L
  | .i2, .a => .res_2_A
  | .i3, .b => .res_3_B
  | .i3, .c => .res_3_C
  | .i3, .d => .res_3_D
  | .i3, .e => .res_3_E
  | .i3, .h => .res_3_H
  | .i3, .l => .res_3_L
  | .i3, .a => .res_3_A
  | .i4, .b => .res_4_B
  | .i4, .c => .res_4_C
  | .i4, .d => .res_4_D
  | .i4, .e => .res_4_E
  | .i4, .h => .res_4_H
  | .i4, .l => .res_4_L
  | .i4, .a => .res_4_A
  | .i5, .b => .res_5_B
  | .i5, .c => .res_5_C
  | .i5, .d => .res_5_D
  | .i5, .e => .res_5_E
  | .i5, .h => .res_5_H
  | .i5, .l => .res_5_L
  | .i5, .a => .res_5_A
  | .i6, .b => .res_6_B
  | .i6, .c => .res_6_C
  | .i6, .d => .res_6_D
  | .i6, .e => .res_6_E
  | .i6, .h => .res_6_H
  | .i6, .l => .res_6_L
  | .i6, .a => .res_6_A
  | .i7, .b => .res_7_B
  | .i7, .c => .res_7_C
  | .i7, .d => .res_7_D
  | .i7, .e => .res_7_E
  | .i7, .h => .res_7_H
  | .i7, .l => .res_7_L
  | .i7, .a => .res_7_A

/-- RES y,(HL) or RES y,(IX+d) (R339, R429). -/
def mkResM (x : Ctx) (y : Idx8) (d : Byte) : Instr :=
  match y with
  | .i0 => x.pick .res_0_mHL (.res_0_mIXd d) (.res_0_mIYd d)
  | .i1 => x.pick .res_1_mHL (.res_1_mIXd d) (.res_1_mIYd d)
  | .i2 => x.pick .res_2_mHL (.res_2_mIXd d) (.res_2_mIYd d)
  | .i3 => x.pick .res_3_mHL (.res_3_mIXd d) (.res_3_mIYd d)
  | .i4 => x.pick .res_4_mHL (.res_4_mIXd d) (.res_4_mIYd d)
  | .i5 => x.pick .res_5_mHL (.res_5_mIXd d) (.res_5_mIYd d)
  | .i6 => x.pick .res_6_mHL (.res_6_mIXd d) (.res_6_mIYd d)
  | .i7 => x.pick .res_7_mHL (.res_7_mIXd d) (.res_7_mIYd d)

/-- SET y,r (R340). -/
def mkSetR (y : Idx8) (r : Reg8) : Instr :=
  match y, r with
  | .i0, .b => .set_0_B
  | .i0, .c => .set_0_C
  | .i0, .d => .set_0_D
  | .i0, .e => .set_0_E
  | .i0, .h => .set_0_H
  | .i0, .l => .set_0_L
  | .i0, .a => .set_0_A
  | .i1, .b => .set_1_B
  | .i1, .c => .set_1_C
  | .i1, .d => .set_1_D
  | .i1, .e => .set_1_E
  | .i1, .h => .set_1_H
  | .i1, .l => .set_1_L
  | .i1, .a => .set_1_A
  | .i2, .b => .set_2_B
  | .i2, .c => .set_2_C
  | .i2, .d => .set_2_D
  | .i2, .e => .set_2_E
  | .i2, .h => .set_2_H
  | .i2, .l => .set_2_L
  | .i2, .a => .set_2_A
  | .i3, .b => .set_3_B
  | .i3, .c => .set_3_C
  | .i3, .d => .set_3_D
  | .i3, .e => .set_3_E
  | .i3, .h => .set_3_H
  | .i3, .l => .set_3_L
  | .i3, .a => .set_3_A
  | .i4, .b => .set_4_B
  | .i4, .c => .set_4_C
  | .i4, .d => .set_4_D
  | .i4, .e => .set_4_E
  | .i4, .h => .set_4_H
  | .i4, .l => .set_4_L
  | .i4, .a => .set_4_A
  | .i5, .b => .set_5_B
  | .i5, .c => .set_5_C
  | .i5, .d => .set_5_D
  | .i5, .e => .set_5_E
  | .i5, .h => .set_5_H
  | .i5, .l => .set_5_L
  | .i5, .a => .set_5_A
  | .i6, .b => .set_6_B
  | .i6, .c => .set_6_C
  | .i6, .d => .set_6_D
  | .i6, .e => .set_6_E
  | .i6, .h => .set_6_H
  | .i6, .l => .set_6_L
  | .i6, .a => .set_6_A
  | .i7, .b => .set_7_B
  | .i7, .c => .set_7_C
  | .i7, .d => .set_7_D
  | .i7, .e => .set_7_E
  | .i7, .h => .set_7_H
  | .i7, .l => .set_7_L
  | .i7, .a => .set_7_A

/-- SET y,(HL) or SET y,(IX+d) (R340, R429). -/
def mkSetM (x : Ctx) (y : Idx8) (d : Byte) : Instr :=
  match y with
  | .i0 => x.pick .set_0_mHL (.set_0_mIXd d) (.set_0_mIYd d)
  | .i1 => x.pick .set_1_mHL (.set_1_mIXd d) (.set_1_mIYd d)
  | .i2 => x.pick .set_2_mHL (.set_2_mIXd d) (.set_2_mIYd d)
  | .i3 => x.pick .set_3_mHL (.set_3_mIXd d) (.set_3_mIYd d)
  | .i4 => x.pick .set_4_mHL (.set_4_mIXd d) (.set_4_mIYd d)
  | .i5 => x.pick .set_5_mHL (.set_5_mIXd d) (.set_5_mIYd d)
  | .i6 => x.pick .set_6_mHL (.set_6_mIXd d) (.set_6_mIYd d)
  | .i7 => x.pick .set_7_mHL (.set_7_mIXd d) (.set_7_mIYd d)

/-- IN r,(C) (R350). -/
def mkInR (r : Reg8) : Instr :=
  match r with
  | .b => .in_B_pC
  | .c => .in_C_pC
  | .d => .in_D_pC
  | .e => .in_E_pC
  | .h => .in_H_pC
  | .l => .in_L_pC
  | .a => .in_A_pC

/-- OUT (C),r (R351). -/
def mkOutR (r : Reg8) : Instr :=
  match r with
  | .b => .out_pC_B
  | .c => .out_pC_C
  | .d => .out_pC_D
  | .e => .out_pC_E
  | .h => .out_pC_H
  | .l => .out_pC_L
  | .a => .out_pC_A

/-- IM 0, IM 1, IM 2 (R363). -/
def mkIm (m : IMode) : Instr :=
  match m with
  | .im0 => .im_0
  | .im1 => .im_1
  | .im2 => .im_2

/-- The state machine of R101 as a tree: an instruction, the fault UnknownOpcode, one more byte to fetch, with `m1`
saying whether it is fetched by FetchOpcode (and counts in R) or by FetchByte (R10, 10_state.md R36), or the mark of a
DD or FD byte before an opcode that does not use HL, which only adds 4 T-states (pass-through, R425). -/
inductive Dec where
  | done (i : Instr)
  | unknown
  | more (m1 : Bool) (next : Byte → Dec)
  | pass (next : Dec)

/-- `FetchOpcode()` (R10). -/
def fetchOp (next : Byte → Dec) : Dec := .more true next

/-- `FetchByte()` (R10). -/
def fetchByte (next : Byte → Dec) : Dec := .more false next

/-- `FetchWord()` (R10): low byte first. -/
def fetchWord (next : Word → Dec) : Dec :=
  fetchByte fun lo => fetchByte fun hi => next (mkWord hi lo)

/-- The displacement byte of a memory operand, read under IX or IY right after the opcode (R422). -/
def fetchDisp (x : Ctx) (next : Byte → Dec) : Dec :=
  match x with
  | .none => next 0
  | .ix => fetchByte next
  | .iy => fetchByte next

/-- Field x of an opcode byte, bits 7..6 (R91). -/
def fieldX (op : Byte) : Nat := op.toNat / 64

/-- Field y, bits 5..3 (R91). -/
def fieldY (op : Byte) : Nat := op.toNat / 8 % 8

/-- Field z, bits 2..0 (R91). -/
def fieldZ (op : Byte) : Nat := op.toNat % 8

/-- Table r; index 6 is the memory operand (R92). -/
def tableR : Nat → Option Reg8
  | 0 => some .b
  | 1 => some .c
  | 2 => some .d
  | 3 => some .e
  | 4 => some .h
  | 5 => some .l
  | 6 => none
  | _ => some .a

/-- Table rp (R92). -/
def tableRp : Nat → Rp
  | 0 => .bc
  | 1 => .de
  | 2 => .hl
  | _ => .sp

/-- Table rp2 (R92). -/
def tableRp2 : Nat → Rp2
  | 0 => .bc
  | 1 => .de
  | 2 => .hl
  | _ => .af

/-- Table cc (R92). -/
def tableCc : Nat → Cond
  | 0 => .nz
  | 1 => .z
  | 2 => .nc
  | 3 => .c
  | 4 => .po
  | 5 => .pe
  | 6 => .p
  | _ => .m

/-- The condition cc[y-4] of JR cc, given y - 4 (R93). -/
def tableJrCc : Nat → JrCond
  | 0 => .nz
  | 1 => .z
  | 2 => .nc
  | _ => .c

/-- Table alu (R92). -/
def tableAlu : Nat → AluOp
  | 0 => .add
  | 1 => .adc
  | 2 => .sub
  | 3 => .sbc
  | 4 => .and
  | 5 => .xor
  | 6 => .or
  | _ => .cp

/-- Table rot; index 6 is the SLL fault cell (R92, R94). -/
def tableRot : Nat → Option RotOp
  | 0 => some .rlc
  | 1 => some .rrc
  | 2 => some .rl
  | 3 => some .rr
  | 4 => some .sla
  | 5 => some .sra
  | 6 => none
  | _ => some .srl

/-- A y field (R99). -/
def tableIdx : Nat → Idx8
  | 0 => .i0
  | 1 => .i1
  | 2 => .i2
  | 3 => .i3
  | 4 => .i4
  | 5 => .i5
  | 6 => .i6
  | _ => .i7

/-- x = 0 of the unprefixed table (R93), with p = y / 2 and q = y % 2. -/
def decodeX0 (x : Ctx) (y z : Nat) : Dec :=
  match z with
  | 0 =>
    match y with
    | 0 => .done .nop
    | 1 => .done .ex_AF_AFs
    | 2 => fetchByte fun e => .done (.djnz_e e)
    | 3 => fetchByte fun e => .done (.jr_e e)
    | _ => fetchByte fun e => .done (mkJrCc (tableJrCc (y - 4)) e)
  | 1 =>
    if y % 2 = 0 then fetchWord fun nn => .done (mkLdRpNn x (tableRp (y / 2)) nn)
    else .done (mkAddHl x (tableRp (y / 2)))
  | 2 =>
    match y with
    | 0 => .done .ld_mBC_A
    | 1 => .done .ld_A_mBC
    | 2 => .done .ld_mDE_A
    | 3 => .done .ld_A_mDE
    | 4 => fetchWord fun nn => .done (mkLdNnHl x nn)
    | 5 => fetchWord fun nn => .done (mkLdHlNn x nn)
    | 6 => fetchWord fun nn => .done (.ld_mnn_A nn)
    | _ => fetchWord fun nn => .done (.ld_A_mnn nn)
  | 3 =>
    if y % 2 = 0 then .done (mkIncRp x (tableRp (y / 2)))
    else .done (mkDecRp x (tableRp (y / 2)))
  | 4 =>
    match tableR y with
    | some r => .done (mkIncR x r)
    | none => fetchDisp x fun d => .done (mkIncM x d)
  | 5 =>
    match tableR y with
    | some r => .done (mkDecR x r)
    | none => fetchDisp x fun d => .done (mkDecM x d)
  | 6 =>
    match tableR y with
    | some r => fetchByte fun n => .done (mkLdRN x r n)
    | none => fetchDisp x fun d => fetchByte fun n => .done (mkLdMN x d n)
  | _ =>
    match y with
    | 0 => .done .rlca
    | 1 => .done .rrca
    | 2 => .done .rla
    | 3 => .done .rra
    | 4 => .done .daa
    | 5 => .done .cpl
    | 6 => .done .scf
    | _ => .done .ccf

/-- x = 1 of the unprefixed table (R93): the 8-bit moves and HALT. -/
def decodeX1 (x : Ctx) (y z : Nat) : Dec :=
  match tableR y, tableR z with
  | some dst, some src => .done (mkLdRR x dst src)
  | some dst, none => fetchDisp x fun d => .done (mkLdRM x dst d)
  | none, some src => fetchDisp x fun d => .done (mkLdMR x src d)
  | none, none => .done .halt

/-- x = 2 of the unprefixed table (R93): alu[y] r[z]. -/
def decodeX2 (x : Ctx) (y z : Nat) : Dec :=
  match tableR z with
  | some r => .done (mkAluR x (tableAlu y) r)
  | none => fetchDisp x fun d => .done (mkAluM x (tableAlu y) d)

/-- x = 3 of the unprefixed table (R93). The cells CB, DD, ED, FD never come here from `decoder`; after DD or FD the
cells DD, ED, FD, EB and D9 are faults (R426), taken before this function. -/
def decodeX3 (x : Ctx) (y z : Nat) : Dec :=
  match z with
  | 0 => .done (mkRetCc (tableCc y))
  | 1 =>
    if y % 2 = 0 then .done (mkPop x (tableRp2 (y / 2)))
    else
      match y / 2 with
      | 0 => .done .ret
      | 1 => .done .exx
      | 2 => .done (mkJpHl x)
      | _ => .done (mkLdSpHl x)
  | 2 => fetchWord fun nn => .done (mkJpCc (tableCc y) nn)
  | 3 =>
    match y with
    | 0 => fetchWord fun nn => .done (.jp_nn nn)
    | 1 => .unknown
    | 2 => fetchByte fun n => .done (.out_pn_A n)
    | 3 => fetchByte fun n => .done (.in_A_pn n)
    | 4 => .done (mkExSp x)
    | 5 => .done .ex_DE_HL
    | 6 => .done .di
    | _ => .done .ei
  | 4 => fetchWord fun nn => .done (mkCallCc (tableCc y) nn)
  | 5 =>
    if y % 2 = 0 then .done (mkPush x (tableRp2 (y / 2)))
    else if y = 1 then fetchWord fun nn => .done (.call_nn nn)
    else .unknown
  | 6 => fetchByte fun n => .done (mkAluN (tableAlu y) n)
  | _ => .done (mkRst (tableIdx y))

/-- `ExecBase`'s decoding (R93, R101): the unprefixed table under a context. -/
def decodeBase (x : Ctx) (op : Byte) : Dec :=
  match fieldX op with
  | 0 => decodeX0 x (fieldY op) (fieldZ op)
  | 1 => decodeX1 x (fieldY op) (fieldZ op)
  | 2 => decodeX2 x (fieldY op) (fieldZ op)
  | _ => decodeX3 x (fieldY op) (fieldZ op)

/-- The CB table (R94). -/
def decodeCB (op : Byte) : Dec :=
  match fieldX op with
  | 0 =>
    match tableRot (fieldY op), tableR (fieldZ op) with
    | some g, some r => .done (mkRotR g r)
    | some g, none => .done (mkRotM .none g 0)
    | none, _ => .unknown
  | 1 =>
    match tableR (fieldZ op) with
    | some r => .done (mkBitR (tableIdx (fieldY op)) r)
    | none => .done (mkBitM .none (tableIdx (fieldY op)) 0)
  | 2 =>
    match tableR (fieldZ op) with
    | some r => .done (mkResR (tableIdx (fieldY op)) r)
    | none => .done (mkResM .none (tableIdx (fieldY op)) 0)
  | _ =>
    match tableR (fieldZ op) with
    | some r => .done (mkSetR (tableIdx (fieldY op)) r)
    | none => .done (mkSetM .none (tableIdx (fieldY op)) 0)

/-- x = 1 of the ED table (R95). -/
def decodeEDX1 (y z : Nat) : Dec :=
  match z with
  | 0 =>
    match tableR y with
    | some r => .done (mkInR r)
    | none => .unknown
  | 1 =>
    match tableR y with
    | some r => .done (mkOutR r)
    | none => .unknown
  | 2 => if y % 2 = 0 then .done (mkSbcHl (tableRp (y / 2))) else .done (mkAdcHl (tableRp (y / 2)))
  | 3 =>
    if y % 2 = 0 then fetchWord fun nn => .done (mkLdNnRp (tableRp (y / 2)) nn)
    else fetchWord fun nn => .done (mkLdRpNnMem (tableRp (y / 2)) nn)
  | 4 => if y = 0 then .done .neg else .unknown
  | 5 =>
    match y with
    | 0 => .done .retn
    | 1 => .done .reti
    | _ => .unknown
  | 6 =>
    match y with
    | 0 => .done (mkIm .im0)
    | 2 => .done (mkIm .im1)
    | 3 => .done (mkIm .im2)
    | _ => .unknown
  | _ =>
    match y with
    | 0 => .done .ld_I_A
    | 1 => .done .ld_R_A
    | 2 => .done .ld_A_I
    | 3 => .done .ld_A_R
    | 4 => .done .rrd
    | 5 => .done .rld
    | _ => .unknown

/-- The block instructions bli[y,z] (46_block.md R390). -/
def decodeBlock (y z : Nat) : Dec :=
  match z with
  | 0 =>
    match y with
    | 4 => .done .ldi
    | 5 => .done .ldd
    | 6 => .done .ldir
    | 7 => .done .lddr
    | _ => .unknown
  | 1 =>
    match y with
    | 4 => .done .cpi
    | 5 => .done .cpd
    | 6 => .done .cpir
    | 7 => .done .cpdr
    | _ => .unknown
  | 2 =>
    match y with
    | 4 => .done .ini
    | 5 => .done .ind
    | 6 => .done .inir
    | 7 => .done .indr
    | _ => .unknown
  | 3 =>
    match y with
    | 4 => .done .outi
    | 5 => .done .outd
    | 6 => .done .otir
    | 7 => .done .otdr
    | _ => .unknown
  | _ => .unknown

/-- The ED table (R95): every cell not listed is UnknownOpcode. -/
def decodeED (op : Byte) : Dec :=
  match fieldX op with
  | 1 => decodeEDX1 (fieldY op) (fieldZ op)
  | 2 => decodeBlock (fieldY op) (fieldZ op)
  | _ => .unknown

/-- The indexed CB forms (R429, R430): z = 6 only, and not SLL. -/
def decodeIndexedCB (x : Ctx) (d op : Byte) : Dec :=
  match tableR (fieldZ op) with
  | some _ => .unknown
  | none =>
    match fieldX op with
    | 0 =>
      match tableRot (fieldY op) with
      | some g => .done (mkRotM x g d)
      | none => .unknown
    | 1 => .done (mkBitM x (tableIdx (fieldY op)) d)
    | 2 => .done (mkResM x (tableIdx (fieldY op)) d)
    | _ => .done (mkSetM x (tableIdx (fieldY op)) d)

/-- Does the unprefixed instruction of the byte use `reg16[2]`, `reg16af[2]`, `reg8[4]`, `reg8[5]` or `reg8[6]`
(R425)? These are the 25 memory forms and the 60 substitution forms of R427, and the two faults EB and D9 aside. -/
def usesHL (op : Byte) : Bool :=
  let y := fieldY op
  let z := fieldZ op
  let yHL := decide (y = 4) || decide (y = 5) || decide (y = 6)
  let zHL := decide (z = 4) || decide (z = 5) || decide (z = 6)
  match fieldX op with
  | 0 =>
    match z with
    | 1 => decide (y / 2 = 2) || decide (y % 2 = 1)
    | 2 => decide (y / 2 = 2)
    | 3 => decide (y / 2 = 2)
    | 4 => yHL
    | 5 => yHL
    | 6 => yHL
    | _ => false
  | 1 => (yHL || zHL) && !(decide (y = 6) && decide (z = 6))
  | 2 => zHL
  | _ =>
    match z with
    | 1 => decide (y = 4) || decide (y = 5) || decide (y = 7)
    | 3 => decide (y = 4)
    | 5 => decide (y = 4)
    | _ => false

/-- After DD or FD (R101, R425, R426, R428): d and op of an indexed CB form are not opcode fetches. -/
def decodeIndexed (x : Ctx) : Dec :=
  fetchOp fun b2 =>
    if b2 = 0xCB then fetchByte fun d => fetchByte fun op => decodeIndexedCB x d op
    else if b2 = 0xDD ∨ b2 = 0xFD ∨ b2 = 0xED ∨ b2 = 0xEB ∨ b2 = 0xD9 then .unknown
    else if usesHL b2 then decodeBase x b2
    else .pass (decodeBase .none b2)

/-- `ExecuteInstruction`'s decoding (R101). -/
def decoder : Dec :=
  fetchOp fun b =>
    if b = 0xCB then fetchOp decodeCB
    else if b = 0xED then fetchOp decodeED
    else if b = 0xDD then decodeIndexed .ix
    else if b = 0xFD then decodeIndexed .iy
    else decodeBase .none b

/-- What a byte string decodes to: an instruction and the bytes after it, the fault with the bytes fetched (R97), or
an end before the instruction's last byte. `passT` is what a pass-through DD or FD byte adds to the cost: 4, or 0
where there is none (R425). -/
inductive DecodeResult where
  | instr (i : Instr) (passT : Nat) (rest : List Byte)
  | unknownOpcode (bytes : List Byte)
  | truncated
  deriving DecidableEq, Repr

/-- Walk the tree along the bytes; `passT` counts a pass-through byte's T-states and `fetched` is what has been
read, oldest first. -/
def Dec.run : Dec → Nat → List Byte → List Byte → DecodeResult
  | .done i, passT, _, bs => .instr i passT bs
  | .unknown, _, fetched, _ => .unknownOpcode fetched
  | .pass next, passT, fetched, bs => Dec.run next (passT + 4) fetched bs
  | .more _ _, _, _, [] => .truncated
  | .more _ next, passT, fetched, b :: bs => Dec.run (next b) passT (fetched ++ [b]) bs

/-- Decode the instruction at the head of a byte string. -/
def decode (bs : List Byte) : DecodeResult := decoder.run 0 [] bs

/-- The bytes of an instruction in address order, row by row from spec/opcode_table.json (30_encoding.md R98, R110),
without a pass-through byte. -/
def encode : Instr → List Byte
  | .ld_BC_nn nn => [0x01, loByte nn, hiByte nn]
  | .ld_B_n n => [0x06, n]
  | .ld_C_n n => [0x0E, n]
  | .djnz_e e => [0x10, e]
  | .ld_DE_nn nn => [0x11, loByte nn, hiByte nn]
  | .ld_D_n n => [0x16, n]
  | .jr_e e => [0x18, e]
  | .ld_E_n n => [0x1E, n]
  | .jr_NZ_e e => [0x20, e]
  | .ld_HL_nn nn => [0x21, loByte nn, hiByte nn]
  | .ld_mnn_HL nn => [0x22, loByte nn, hiByte nn]
  | .ld_H_n n => [0x26, n]
  | .jr_Z_e e => [0x28, e]
  | .ld_HL_mnn nn => [0x2A, loByte nn, hiByte nn]
  | .ld_L_n n => [0x2E, n]
  | .jr_NC_e e => [0x30, e]
  | .ld_SP_nn nn => [0x31, loByte nn, hiByte nn]
  | .ld_mnn_A nn => [0x32, loByte nn, hiByte nn]
  | .ld_mHL_n n => [0x36, n]
  | .jr_C_e e => [0x38, e]
  | .ld_A_mnn nn => [0x3A, loByte nn, hiByte nn]
  | .ld_A_n n => [0x3E, n]
  | .jp_NZ_nn nn => [0xC2, loByte nn, hiByte nn]
  | .jp_nn nn => [0xC3, loByte nn, hiByte nn]
  | .call_NZ_nn nn => [0xC4, loByte nn, hiByte nn]
  | .add_A_n n => [0xC6, n]
  | .jp_Z_nn nn => [0xCA, loByte nn, hiByte nn]
  | .call_Z_nn nn => [0xCC, loByte nn, hiByte nn]
  | .call_nn nn => [0xCD, loByte nn, hiByte nn]
  | .adc_A_n n => [0xCE, n]
  | .jp_NC_nn nn => [0xD2, loByte nn, hiByte nn]
  | .out_pn_A n => [0xD3, n]
  | .call_NC_nn nn => [0xD4, loByte nn, hiByte nn]
  | .sub_n n => [0xD6, n]
  | .jp_C_nn nn => [0xDA, loByte nn, hiByte nn]
  | .in_A_pn n => [0xDB, n]
  | .call_C_nn nn => [0xDC, loByte nn, hiByte nn]
  | .sbc_A_n n => [0xDE, n]
  | .jp_PO_nn nn => [0xE2, loByte nn, hiByte nn]
  | .call_PO_nn nn => [0xE4, loByte nn, hiByte nn]
  | .and_n n => [0xE6, n]
  | .jp_PE_nn nn => [0xEA, loByte nn, hiByte nn]
  | .call_PE_nn nn => [0xEC, loByte nn, hiByte nn]
  | .xor_n n => [0xEE, n]
  | .jp_P_nn nn => [0xF2, loByte nn, hiByte nn]
  | .call_P_nn nn => [0xF4, loByte nn, hiByte nn]
  | .or_n n => [0xF6, n]
  | .jp_M_nn nn => [0xFA, loByte nn, hiByte nn]
  | .call_M_nn nn => [0xFC, loByte nn, hiByte nn]
  | .cp_n n => [0xFE, n]
  | .ld_mnn_BC nn => [0xED, 0x43, loByte nn, hiByte nn]
  | .ld_BC_mnn nn => [0xED, 0x4B, loByte nn, hiByte nn]
  | .ld_mnn_DE nn => [0xED, 0x53, loByte nn, hiByte nn]
  | .ld_DE_mnn nn => [0xED, 0x5B, loByte nn, hiByte nn]
  | .ld_mnn_HL_ed nn => [0xED, 0x63, loByte nn, hiByte nn]
  | .ld_HL_mnn_ed nn => [0xED, 0x6B, loByte nn, hiByte nn]
  | .ld_mnn_SP nn => [0xED, 0x73, loByte nn, hiByte nn]
  | .ld_SP_mnn nn => [0xED, 0x7B, loByte nn, hiByte nn]
  | .ld_IX_nn nn => [0xDD, 0x21, loByte nn, hiByte nn]
  | .ld_mnn_IX nn => [0xDD, 0x22, loByte nn, hiByte nn]
  | .ld_IXh_n n => [0xDD, 0x26, n]
  | .ld_IX_mnn nn => [0xDD, 0x2A, loByte nn, hiByte nn]
  | .ld_IXl_n n => [0xDD, 0x2E, n]
  | .inc_mIXd d => [0xDD, 0x34, d]
  | .dec_mIXd d => [0xDD, 0x35, d]
  | .ld_mIXd_n d n => [0xDD, 0x36, d, n]
  | .ld_B_mIXd d => [0xDD, 0x46, d]
  | .ld_C_mIXd d => [0xDD, 0x4E, d]
  | .ld_D_mIXd d => [0xDD, 0x56, d]
  | .ld_E_mIXd d => [0xDD, 0x5E, d]
  | .ld_H_mIXd d => [0xDD, 0x66, d]
  | .ld_L_mIXd d => [0xDD, 0x6E, d]
  | .ld_mIXd_B d => [0xDD, 0x70, d]
  | .ld_mIXd_C d => [0xDD, 0x71, d]
  | .ld_mIXd_D d => [0xDD, 0x72, d]
  | .ld_mIXd_E d => [0xDD, 0x73, d]
  | .ld_mIXd_H d => [0xDD, 0x74, d]
  | .ld_mIXd_L d => [0xDD, 0x75, d]
  | .ld_mIXd_A d => [0xDD, 0x77, d]
  | .ld_A_mIXd d => [0xDD, 0x7E, d]
  | .add_A_mIXd d => [0xDD, 0x86, d]
  | .adc_A_mIXd d => [0xDD, 0x8E, d]
  | .sub_mIXd d => [0xDD, 0x96, d]
  | .sbc_A_mIXd d => [0xDD, 0x9E, d]
  | .and_mIXd d => [0xDD, 0xA6, d]
  | .xor_mIXd d => [0xDD, 0xAE, d]
  | .or_mIXd d => [0xDD, 0xB6, d]
  | .cp_mIXd d => [0xDD, 0xBE, d]
  | .rlc_mIXd d => [0xDD, 0xCB, d, 0x06]
  | .rrc_mIXd d => [0xDD, 0xCB, d, 0x0E]
  | .rl_mIXd d => [0xDD, 0xCB, d, 0x16]
  | .rr_mIXd d => [0xDD, 0xCB, d, 0x1E]
  | .sla_mIXd d => [0xDD, 0xCB, d, 0x26]
  | .sra_mIXd d => [0xDD, 0xCB, d, 0x2E]
  | .srl_mIXd d => [0xDD, 0xCB, d, 0x3E]
  | .bit_0_mIXd d => [0xDD, 0xCB, d, 0x46]
  | .bit_1_mIXd d => [0xDD, 0xCB, d, 0x4E]
  | .bit_2_mIXd d => [0xDD, 0xCB, d, 0x56]
  | .bit_3_mIXd d => [0xDD, 0xCB, d, 0x5E]
  | .bit_4_mIXd d => [0xDD, 0xCB, d, 0x66]
  | .bit_5_mIXd d => [0xDD, 0xCB, d, 0x6E]
  | .bit_6_mIXd d => [0xDD, 0xCB, d, 0x76]
  | .bit_7_mIXd d => [0xDD, 0xCB, d, 0x7E]
  | .res_0_mIXd d => [0xDD, 0xCB, d, 0x86]
  | .res_1_mIXd d => [0xDD, 0xCB, d, 0x8E]
  | .res_2_mIXd d => [0xDD, 0xCB, d, 0x96]
  | .res_3_mIXd d => [0xDD, 0xCB, d, 0x9E]
  | .res_4_mIXd d => [0xDD, 0xCB, d, 0xA6]
  | .res_5_mIXd d => [0xDD, 0xCB, d, 0xAE]
  | .res_6_mIXd d => [0xDD, 0xCB, d, 0xB6]
  | .res_7_mIXd d => [0xDD, 0xCB, d, 0xBE]
  | .set_0_mIXd d => [0xDD, 0xCB, d, 0xC6]
  | .set_1_mIXd d => [0xDD, 0xCB, d, 0xCE]
  | .set_2_mIXd d => [0xDD, 0xCB, d, 0xD6]
  | .set_3_mIXd d => [0xDD, 0xCB, d, 0xDE]
  | .set_4_mIXd d => [0xDD, 0xCB, d, 0xE6]
  | .set_5_mIXd d => [0xDD, 0xCB, d, 0xEE]
  | .set_6_mIXd d => [0xDD, 0xCB, d, 0xF6]
  | .set_7_mIXd d => [0xDD, 0xCB, d, 0xFE]
  | .ld_IY_nn nn => [0xFD, 0x21, loByte nn, hiByte nn]
  | .ld_mnn_IY nn => [0xFD, 0x22, loByte nn, hiByte nn]
  | .ld_IYh_n n => [0xFD, 0x26, n]
  | .ld_IY_mnn nn => [0xFD, 0x2A, loByte nn, hiByte nn]
  | .ld_IYl_n n => [0xFD, 0x2E, n]
  | .inc_mIYd d => [0xFD, 0x34, d]
  | .dec_mIYd d => [0xFD, 0x35, d]
  | .ld_mIYd_n d n => [0xFD, 0x36, d, n]
  | .ld_B_mIYd d => [0xFD, 0x46, d]
  | .ld_C_mIYd d => [0xFD, 0x4E, d]
  | .ld_D_mIYd d => [0xFD, 0x56, d]
  | .ld_E_mIYd d => [0xFD, 0x5E, d]
  | .ld_H_mIYd d => [0xFD, 0x66, d]
  | .ld_L_mIYd d => [0xFD, 0x6E, d]
  | .ld_mIYd_B d => [0xFD, 0x70, d]
  | .ld_mIYd_C d => [0xFD, 0x71, d]
  | .ld_mIYd_D d => [0xFD, 0x72, d]
  | .ld_mIYd_E d => [0xFD, 0x73, d]
  | .ld_mIYd_H d => [0xFD, 0x74, d]
  | .ld_mIYd_L d => [0xFD, 0x75, d]
  | .ld_mIYd_A d => [0xFD, 0x77, d]
  | .ld_A_mIYd d => [0xFD, 0x7E, d]
  | .add_A_mIYd d => [0xFD, 0x86, d]
  | .adc_A_mIYd d => [0xFD, 0x8E, d]
  | .sub_mIYd d => [0xFD, 0x96, d]
  | .sbc_A_mIYd d => [0xFD, 0x9E, d]
  | .and_mIYd d => [0xFD, 0xA6, d]
  | .xor_mIYd d => [0xFD, 0xAE, d]
  | .or_mIYd d => [0xFD, 0xB6, d]
  | .cp_mIYd d => [0xFD, 0xBE, d]
  | .rlc_mIYd d => [0xFD, 0xCB, d, 0x06]
  | .rrc_mIYd d => [0xFD, 0xCB, d, 0x0E]
  | .rl_mIYd d => [0xFD, 0xCB, d, 0x16]
  | .rr_mIYd d => [0xFD, 0xCB, d, 0x1E]
  | .sla_mIYd d => [0xFD, 0xCB, d, 0x26]
  | .sra_mIYd d => [0xFD, 0xCB, d, 0x2E]
  | .srl_mIYd d => [0xFD, 0xCB, d, 0x3E]
  | .bit_0_mIYd d => [0xFD, 0xCB, d, 0x46]
  | .bit_1_mIYd d => [0xFD, 0xCB, d, 0x4E]
  | .bit_2_mIYd d => [0xFD, 0xCB, d, 0x56]
  | .bit_3_mIYd d => [0xFD, 0xCB, d, 0x5E]
  | .bit_4_mIYd d => [0xFD, 0xCB, d, 0x66]
  | .bit_5_mIYd d => [0xFD, 0xCB, d, 0x6E]
  | .bit_6_mIYd d => [0xFD, 0xCB, d, 0x76]
  | .bit_7_mIYd d => [0xFD, 0xCB, d, 0x7E]
  | .res_0_mIYd d => [0xFD, 0xCB, d, 0x86]
  | .res_1_mIYd d => [0xFD, 0xCB, d, 0x8E]
  | .res_2_mIYd d => [0xFD, 0xCB, d, 0x96]
  | .res_3_mIYd d => [0xFD, 0xCB, d, 0x9E]
  | .res_4_mIYd d => [0xFD, 0xCB, d, 0xA6]
  | .res_5_mIYd d => [0xFD, 0xCB, d, 0xAE]
  | .res_6_mIYd d => [0xFD, 0xCB, d, 0xB6]
  | .res_7_mIYd d => [0xFD, 0xCB, d, 0xBE]
  | .set_0_mIYd d => [0xFD, 0xCB, d, 0xC6]
  | .set_1_mIYd d => [0xFD, 0xCB, d, 0xCE]
  | .set_2_mIYd d => [0xFD, 0xCB, d, 0xD6]
  | .set_3_mIYd d => [0xFD, 0xCB, d, 0xDE]
  | .set_4_mIYd d => [0xFD, 0xCB, d, 0xE6]
  | .set_5_mIYd d => [0xFD, 0xCB, d, 0xEE]
  | .set_6_mIYd d => [0xFD, 0xCB, d, 0xF6]
  | .set_7_mIYd d => [0xFD, 0xCB, d, 0xFE]
  | .nop => [0x00]
  | .ld_mBC_A => [0x02]
  | .inc_BC => [0x03]
  | .inc_B => [0x04]
  | .dec_B => [0x05]
  | .rlca => [0x07]
  | .ex_AF_AFs => [0x08]
  | .add_HL_BC => [0x09]
  | .ld_A_mBC => [0x0A]
  | .dec_BC => [0x0B]
  | .inc_C => [0x0C]
  | .dec_C => [0x0D]
  | .rrca => [0x0F]
  | .ld_mDE_A => [0x12]
  | .inc_DE => [0x13]
  | .inc_D => [0x14]
  | .dec_D => [0x15]
  | .rla => [0x17]
  | .add_HL_DE => [0x19]
  | .ld_A_mDE => [0x1A]
  | .dec_DE => [0x1B]
  | .inc_E => [0x1C]
  | .dec_E => [0x1D]
  | .rra => [0x1F]
  | .inc_HL => [0x23]
  | .inc_H => [0x24]
  | .dec_H => [0x25]
  | .daa => [0x27]
  | .add_HL_HL => [0x29]
  | .dec_HL => [0x2B]
  | .inc_L => [0x2C]
  | .dec_L => [0x2D]
  | .cpl => [0x2F]
  | .inc_SP => [0x33]
  | .inc_mHL => [0x34]
  | .dec_mHL => [0x35]
  | .scf => [0x37]
  | .add_HL_SP => [0x39]
  | .dec_SP => [0x3B]
  | .inc_A => [0x3C]
  | .dec_A => [0x3D]
  | .ccf => [0x3F]
  | .ld_B_B => [0x40]
  | .ld_B_C => [0x41]
  | .ld_B_D => [0x42]
  | .ld_B_E => [0x43]
  | .ld_B_H => [0x44]
  | .ld_B_L => [0x45]
  | .ld_B_mHL => [0x46]
  | .ld_B_A => [0x47]
  | .ld_C_B => [0x48]
  | .ld_C_C => [0x49]
  | .ld_C_D => [0x4A]
  | .ld_C_E => [0x4B]
  | .ld_C_H => [0x4C]
  | .ld_C_L => [0x4D]
  | .ld_C_mHL => [0x4E]
  | .ld_C_A => [0x4F]
  | .ld_D_B => [0x50]
  | .ld_D_C => [0x51]
  | .ld_D_D => [0x52]
  | .ld_D_E => [0x53]
  | .ld_D_H => [0x54]
  | .ld_D_L => [0x55]
  | .ld_D_mHL => [0x56]
  | .ld_D_A => [0x57]
  | .ld_E_B => [0x58]
  | .ld_E_C => [0x59]
  | .ld_E_D => [0x5A]
  | .ld_E_E => [0x5B]
  | .ld_E_H => [0x5C]
  | .ld_E_L => [0x5D]
  | .ld_E_mHL => [0x5E]
  | .ld_E_A => [0x5F]
  | .ld_H_B => [0x60]
  | .ld_H_C => [0x61]
  | .ld_H_D => [0x62]
  | .ld_H_E => [0x63]
  | .ld_H_H => [0x64]
  | .ld_H_L => [0x65]
  | .ld_H_mHL => [0x66]
  | .ld_H_A => [0x67]
  | .ld_L_B => [0x68]
  | .ld_L_C => [0x69]
  | .ld_L_D => [0x6A]
  | .ld_L_E => [0x6B]
  | .ld_L_H => [0x6C]
  | .ld_L_L => [0x6D]
  | .ld_L_mHL => [0x6E]
  | .ld_L_A => [0x6F]
  | .ld_mHL_B => [0x70]
  | .ld_mHL_C => [0x71]
  | .ld_mHL_D => [0x72]
  | .ld_mHL_E => [0x73]
  | .ld_mHL_H => [0x74]
  | .ld_mHL_L => [0x75]
  | .halt => [0x76]
  | .ld_mHL_A => [0x77]
  | .ld_A_B => [0x78]
  | .ld_A_C => [0x79]
  | .ld_A_D => [0x7A]
  | .ld_A_E => [0x7B]
  | .ld_A_H => [0x7C]
  | .ld_A_L => [0x7D]
  | .ld_A_mHL => [0x7E]
  | .ld_A_A => [0x7F]
  | .add_A_B => [0x80]
  | .add_A_C => [0x81]
  | .add_A_D => [0x82]
  | .add_A_E => [0x83]
  | .add_A_H => [0x84]
  | .add_A_L => [0x85]
  | .add_A_mHL => [0x86]
  | .add_A_A => [0x87]
  | .adc_A_B => [0x88]
  | .adc_A_C => [0x89]
  | .adc_A_D => [0x8A]
  | .adc_A_E => [0x8B]
  | .adc_A_H => [0x8C]
  | .adc_A_L => [0x8D]
  | .adc_A_mHL => [0x8E]
  | .adc_A_A => [0x8F]
  | .sub_B => [0x90]
  | .sub_C => [0x91]
  | .sub_D => [0x92]
  | .sub_E => [0x93]
  | .sub_H => [0x94]
  | .sub_L => [0x95]
  | .sub_mHL => [0x96]
  | .sub_A => [0x97]
  | .sbc_A_B => [0x98]
  | .sbc_A_C => [0x99]
  | .sbc_A_D => [0x9A]
  | .sbc_A_E => [0x9B]
  | .sbc_A_H => [0x9C]
  | .sbc_A_L => [0x9D]
  | .sbc_A_mHL => [0x9E]
  | .sbc_A_A => [0x9F]
  | .and_B => [0xA0]
  | .and_C => [0xA1]
  | .and_D => [0xA2]
  | .and_E => [0xA3]
  | .and_H => [0xA4]
  | .and_L => [0xA5]
  | .and_mHL => [0xA6]
  | .and_A => [0xA7]
  | .xor_B => [0xA8]
  | .xor_C => [0xA9]
  | .xor_D => [0xAA]
  | .xor_E => [0xAB]
  | .xor_H => [0xAC]
  | .xor_L => [0xAD]
  | .xor_mHL => [0xAE]
  | .xor_A => [0xAF]
  | .or_B => [0xB0]
  | .or_C => [0xB1]
  | .or_D => [0xB2]
  | .or_E => [0xB3]
  | .or_H => [0xB4]
  | .or_L => [0xB5]
  | .or_mHL => [0xB6]
  | .or_A => [0xB7]
  | .cp_B => [0xB8]
  | .cp_C => [0xB9]
  | .cp_D => [0xBA]
  | .cp_E => [0xBB]
  | .cp_H => [0xBC]
  | .cp_L => [0xBD]
  | .cp_mHL => [0xBE]
  | .cp_A => [0xBF]
  | .ret_NZ => [0xC0]
  | .pop_BC => [0xC1]
  | .push_BC => [0xC5]
  | .rst_00H => [0xC7]
  | .ret_Z => [0xC8]
  | .ret => [0xC9]
  | .rst_08H => [0xCF]
  | .ret_NC => [0xD0]
  | .pop_DE => [0xD1]
  | .push_DE => [0xD5]
  | .rst_10H => [0xD7]
  | .ret_C => [0xD8]
  | .exx => [0xD9]
  | .rst_18H => [0xDF]
  | .ret_PO => [0xE0]
  | .pop_HL => [0xE1]
  | .ex_mSP_HL => [0xE3]
  | .push_HL => [0xE5]
  | .rst_20H => [0xE7]
  | .ret_PE => [0xE8]
  | .jp_mHL => [0xE9]
  | .ex_DE_HL => [0xEB]
  | .rst_28H => [0xEF]
  | .ret_P => [0xF0]
  | .pop_AF => [0xF1]
  | .di => [0xF3]
  | .push_AF => [0xF5]
  | .rst_30H => [0xF7]
  | .ret_M => [0xF8]
  | .ld_SP_HL => [0xF9]
  | .ei => [0xFB]
  | .rst_38H => [0xFF]
  | .rlc_B => [0xCB, 0x00]
  | .rlc_C => [0xCB, 0x01]
  | .rlc_D => [0xCB, 0x02]
  | .rlc_E => [0xCB, 0x03]
  | .rlc_H => [0xCB, 0x04]
  | .rlc_L => [0xCB, 0x05]
  | .rlc_mHL => [0xCB, 0x06]
  | .rlc_A => [0xCB, 0x07]
  | .rrc_B => [0xCB, 0x08]
  | .rrc_C => [0xCB, 0x09]
  | .rrc_D => [0xCB, 0x0A]
  | .rrc_E => [0xCB, 0x0B]
  | .rrc_H => [0xCB, 0x0C]
  | .rrc_L => [0xCB, 0x0D]
  | .rrc_mHL => [0xCB, 0x0E]
  | .rrc_A => [0xCB, 0x0F]
  | .rl_B => [0xCB, 0x10]
  | .rl_C => [0xCB, 0x11]
  | .rl_D => [0xCB, 0x12]
  | .rl_E => [0xCB, 0x13]
  | .rl_H => [0xCB, 0x14]
  | .rl_L => [0xCB, 0x15]
  | .rl_mHL => [0xCB, 0x16]
  | .rl_A => [0xCB, 0x17]
  | .rr_B => [0xCB, 0x18]
  | .rr_C => [0xCB, 0x19]
  | .rr_D => [0xCB, 0x1A]
  | .rr_E => [0xCB, 0x1B]
  | .rr_H => [0xCB, 0x1C]
  | .rr_L => [0xCB, 0x1D]
  | .rr_mHL => [0xCB, 0x1E]
  | .rr_A => [0xCB, 0x1F]
  | .sla_B => [0xCB, 0x20]
  | .sla_C => [0xCB, 0x21]
  | .sla_D => [0xCB, 0x22]
  | .sla_E => [0xCB, 0x23]
  | .sla_H => [0xCB, 0x24]
  | .sla_L => [0xCB, 0x25]
  | .sla_mHL => [0xCB, 0x26]
  | .sla_A => [0xCB, 0x27]
  | .sra_B => [0xCB, 0x28]
  | .sra_C => [0xCB, 0x29]
  | .sra_D => [0xCB, 0x2A]
  | .sra_E => [0xCB, 0x2B]
  | .sra_H => [0xCB, 0x2C]
  | .sra_L => [0xCB, 0x2D]
  | .sra_mHL => [0xCB, 0x2E]
  | .sra_A => [0xCB, 0x2F]
  | .srl_B => [0xCB, 0x38]
  | .srl_C => [0xCB, 0x39]
  | .srl_D => [0xCB, 0x3A]
  | .srl_E => [0xCB, 0x3B]
  | .srl_H => [0xCB, 0x3C]
  | .srl_L => [0xCB, 0x3D]
  | .srl_mHL => [0xCB, 0x3E]
  | .srl_A => [0xCB, 0x3F]
  | .bit_0_B => [0xCB, 0x40]
  | .bit_0_C => [0xCB, 0x41]
  | .bit_0_D => [0xCB, 0x42]
  | .bit_0_E => [0xCB, 0x43]
  | .bit_0_H => [0xCB, 0x44]
  | .bit_0_L => [0xCB, 0x45]
  | .bit_0_mHL => [0xCB, 0x46]
  | .bit_0_A => [0xCB, 0x47]
  | .bit_1_B => [0xCB, 0x48]
  | .bit_1_C => [0xCB, 0x49]
  | .bit_1_D => [0xCB, 0x4A]
  | .bit_1_E => [0xCB, 0x4B]
  | .bit_1_H => [0xCB, 0x4C]
  | .bit_1_L => [0xCB, 0x4D]
  | .bit_1_mHL => [0xCB, 0x4E]
  | .bit_1_A => [0xCB, 0x4F]
  | .bit_2_B => [0xCB, 0x50]
  | .bit_2_C => [0xCB, 0x51]
  | .bit_2_D => [0xCB, 0x52]
  | .bit_2_E => [0xCB, 0x53]
  | .bit_2_H => [0xCB, 0x54]
  | .bit_2_L => [0xCB, 0x55]
  | .bit_2_mHL => [0xCB, 0x56]
  | .bit_2_A => [0xCB, 0x57]
  | .bit_3_B => [0xCB, 0x58]
  | .bit_3_C => [0xCB, 0x59]
  | .bit_3_D => [0xCB, 0x5A]
  | .bit_3_E => [0xCB, 0x5B]
  | .bit_3_H => [0xCB, 0x5C]
  | .bit_3_L => [0xCB, 0x5D]
  | .bit_3_mHL => [0xCB, 0x5E]
  | .bit_3_A => [0xCB, 0x5F]
  | .bit_4_B => [0xCB, 0x60]
  | .bit_4_C => [0xCB, 0x61]
  | .bit_4_D => [0xCB, 0x62]
  | .bit_4_E => [0xCB, 0x63]
  | .bit_4_H => [0xCB, 0x64]
  | .bit_4_L => [0xCB, 0x65]
  | .bit_4_mHL => [0xCB, 0x66]
  | .bit_4_A => [0xCB, 0x67]
  | .bit_5_B => [0xCB, 0x68]
  | .bit_5_C => [0xCB, 0x69]
  | .bit_5_D => [0xCB, 0x6A]
  | .bit_5_E => [0xCB, 0x6B]
  | .bit_5_H => [0xCB, 0x6C]
  | .bit_5_L => [0xCB, 0x6D]
  | .bit_5_mHL => [0xCB, 0x6E]
  | .bit_5_A => [0xCB, 0x6F]
  | .bit_6_B => [0xCB, 0x70]
  | .bit_6_C => [0xCB, 0x71]
  | .bit_6_D => [0xCB, 0x72]
  | .bit_6_E => [0xCB, 0x73]
  | .bit_6_H => [0xCB, 0x74]
  | .bit_6_L => [0xCB, 0x75]
  | .bit_6_mHL => [0xCB, 0x76]
  | .bit_6_A => [0xCB, 0x77]
  | .bit_7_B => [0xCB, 0x78]
  | .bit_7_C => [0xCB, 0x79]
  | .bit_7_D => [0xCB, 0x7A]
  | .bit_7_E => [0xCB, 0x7B]
  | .bit_7_H => [0xCB, 0x7C]
  | .bit_7_L => [0xCB, 0x7D]
  | .bit_7_mHL => [0xCB, 0x7E]
  | .bit_7_A => [0xCB, 0x7F]
  | .res_0_B => [0xCB, 0x80]
  | .res_0_C => [0xCB, 0x81]
  | .res_0_D => [0xCB, 0x82]
  | .res_0_E => [0xCB, 0x83]
  | .res_0_H => [0xCB, 0x84]
  | .res_0_L => [0xCB, 0x85]
  | .res_0_mHL => [0xCB, 0x86]
  | .res_0_A => [0xCB, 0x87]
  | .res_1_B => [0xCB, 0x88]
  | .res_1_C => [0xCB, 0x89]
  | .res_1_D => [0xCB, 0x8A]
  | .res_1_E => [0xCB, 0x8B]
  | .res_1_H => [0xCB, 0x8C]
  | .res_1_L => [0xCB, 0x8D]
  | .res_1_mHL => [0xCB, 0x8E]
  | .res_1_A => [0xCB, 0x8F]
  | .res_2_B => [0xCB, 0x90]
  | .res_2_C => [0xCB, 0x91]
  | .res_2_D => [0xCB, 0x92]
  | .res_2_E => [0xCB, 0x93]
  | .res_2_H => [0xCB, 0x94]
  | .res_2_L => [0xCB, 0x95]
  | .res_2_mHL => [0xCB, 0x96]
  | .res_2_A => [0xCB, 0x97]
  | .res_3_B => [0xCB, 0x98]
  | .res_3_C => [0xCB, 0x99]
  | .res_3_D => [0xCB, 0x9A]
  | .res_3_E => [0xCB, 0x9B]
  | .res_3_H => [0xCB, 0x9C]
  | .res_3_L => [0xCB, 0x9D]
  | .res_3_mHL => [0xCB, 0x9E]
  | .res_3_A => [0xCB, 0x9F]
  | .res_4_B => [0xCB, 0xA0]
  | .res_4_C => [0xCB, 0xA1]
  | .res_4_D => [0xCB, 0xA2]
  | .res_4_E => [0xCB, 0xA3]
  | .res_4_H => [0xCB, 0xA4]
  | .res_4_L => [0xCB, 0xA5]
  | .res_4_mHL => [0xCB, 0xA6]
  | .res_4_A => [0xCB, 0xA7]
  | .res_5_B => [0xCB, 0xA8]
  | .res_5_C => [0xCB, 0xA9]
  | .res_5_D => [0xCB, 0xAA]
  | .res_5_E => [0xCB, 0xAB]
  | .res_5_H => [0xCB, 0xAC]
  | .res_5_L => [0xCB, 0xAD]
  | .res_5_mHL => [0xCB, 0xAE]
  | .res_5_A => [0xCB, 0xAF]
  | .res_6_B => [0xCB, 0xB0]
  | .res_6_C => [0xCB, 0xB1]
  | .res_6_D => [0xCB, 0xB2]
  | .res_6_E => [0xCB, 0xB3]
  | .res_6_H => [0xCB, 0xB4]
  | .res_6_L => [0xCB, 0xB5]
  | .res_6_mHL => [0xCB, 0xB6]
  | .res_6_A => [0xCB, 0xB7]
  | .res_7_B => [0xCB, 0xB8]
  | .res_7_C => [0xCB, 0xB9]
  | .res_7_D => [0xCB, 0xBA]
  | .res_7_E => [0xCB, 0xBB]
  | .res_7_H => [0xCB, 0xBC]
  | .res_7_L => [0xCB, 0xBD]
  | .res_7_mHL => [0xCB, 0xBE]
  | .res_7_A => [0xCB, 0xBF]
  | .set_0_B => [0xCB, 0xC0]
  | .set_0_C => [0xCB, 0xC1]
  | .set_0_D => [0xCB, 0xC2]
  | .set_0_E => [0xCB, 0xC3]
  | .set_0_H => [0xCB, 0xC4]
  | .set_0_L => [0xCB, 0xC5]
  | .set_0_mHL => [0xCB, 0xC6]
  | .set_0_A => [0xCB, 0xC7]
  | .set_1_B => [0xCB, 0xC8]
  | .set_1_C => [0xCB, 0xC9]
  | .set_1_D => [0xCB, 0xCA]
  | .set_1_E => [0xCB, 0xCB]
  | .set_1_H => [0xCB, 0xCC]
  | .set_1_L => [0xCB, 0xCD]
  | .set_1_mHL => [0xCB, 0xCE]
  | .set_1_A => [0xCB, 0xCF]
  | .set_2_B => [0xCB, 0xD0]
  | .set_2_C => [0xCB, 0xD1]
  | .set_2_D => [0xCB, 0xD2]
  | .set_2_E => [0xCB, 0xD3]
  | .set_2_H => [0xCB, 0xD4]
  | .set_2_L => [0xCB, 0xD5]
  | .set_2_mHL => [0xCB, 0xD6]
  | .set_2_A => [0xCB, 0xD7]
  | .set_3_B => [0xCB, 0xD8]
  | .set_3_C => [0xCB, 0xD9]
  | .set_3_D => [0xCB, 0xDA]
  | .set_3_E => [0xCB, 0xDB]
  | .set_3_H => [0xCB, 0xDC]
  | .set_3_L => [0xCB, 0xDD]
  | .set_3_mHL => [0xCB, 0xDE]
  | .set_3_A => [0xCB, 0xDF]
  | .set_4_B => [0xCB, 0xE0]
  | .set_4_C => [0xCB, 0xE1]
  | .set_4_D => [0xCB, 0xE2]
  | .set_4_E => [0xCB, 0xE3]
  | .set_4_H => [0xCB, 0xE4]
  | .set_4_L => [0xCB, 0xE5]
  | .set_4_mHL => [0xCB, 0xE6]
  | .set_4_A => [0xCB, 0xE7]
  | .set_5_B => [0xCB, 0xE8]
  | .set_5_C => [0xCB, 0xE9]
  | .set_5_D => [0xCB, 0xEA]
  | .set_5_E => [0xCB, 0xEB]
  | .set_5_H => [0xCB, 0xEC]
  | .set_5_L => [0xCB, 0xED]
  | .set_5_mHL => [0xCB, 0xEE]
  | .set_5_A => [0xCB, 0xEF]
  | .set_6_B => [0xCB, 0xF0]
  | .set_6_C => [0xCB, 0xF1]
  | .set_6_D => [0xCB, 0xF2]
  | .set_6_E => [0xCB, 0xF3]
  | .set_6_H => [0xCB, 0xF4]
  | .set_6_L => [0xCB, 0xF5]
  | .set_6_mHL => [0xCB, 0xF6]
  | .set_6_A => [0xCB, 0xF7]
  | .set_7_B => [0xCB, 0xF8]
  | .set_7_C => [0xCB, 0xF9]
  | .set_7_D => [0xCB, 0xFA]
  | .set_7_E => [0xCB, 0xFB]
  | .set_7_H => [0xCB, 0xFC]
  | .set_7_L => [0xCB, 0xFD]
  | .set_7_mHL => [0xCB, 0xFE]
  | .set_7_A => [0xCB, 0xFF]
  | .in_B_pC => [0xED, 0x40]
  | .out_pC_B => [0xED, 0x41]
  | .sbc_HL_BC => [0xED, 0x42]
  | .neg => [0xED, 0x44]
  | .retn => [0xED, 0x45]
  | .im_0 => [0xED, 0x46]
  | .ld_I_A => [0xED, 0x47]
  | .in_C_pC => [0xED, 0x48]
  | .out_pC_C => [0xED, 0x49]
  | .adc_HL_BC => [0xED, 0x4A]
  | .reti => [0xED, 0x4D]
  | .ld_R_A => [0xED, 0x4F]
  | .in_D_pC => [0xED, 0x50]
  | .out_pC_D => [0xED, 0x51]
  | .sbc_HL_DE => [0xED, 0x52]
  | .im_1 => [0xED, 0x56]
  | .ld_A_I => [0xED, 0x57]
  | .in_E_pC => [0xED, 0x58]
  | .out_pC_E => [0xED, 0x59]
  | .adc_HL_DE => [0xED, 0x5A]
  | .im_2 => [0xED, 0x5E]
  | .ld_A_R => [0xED, 0x5F]
  | .in_H_pC => [0xED, 0x60]
  | .out_pC_H => [0xED, 0x61]
  | .sbc_HL_HL => [0xED, 0x62]
  | .rrd => [0xED, 0x67]
  | .in_L_pC => [0xED, 0x68]
  | .out_pC_L => [0xED, 0x69]
  | .adc_HL_HL => [0xED, 0x6A]
  | .rld => [0xED, 0x6F]
  | .sbc_HL_SP => [0xED, 0x72]
  | .in_A_pC => [0xED, 0x78]
  | .out_pC_A => [0xED, 0x79]
  | .adc_HL_SP => [0xED, 0x7A]
  | .ldi => [0xED, 0xA0]
  | .cpi => [0xED, 0xA1]
  | .ini => [0xED, 0xA2]
  | .outi => [0xED, 0xA3]
  | .ldd => [0xED, 0xA8]
  | .cpd => [0xED, 0xA9]
  | .ind => [0xED, 0xAA]
  | .outd => [0xED, 0xAB]
  | .ldir => [0xED, 0xB0]
  | .cpir => [0xED, 0xB1]
  | .inir => [0xED, 0xB2]
  | .otir => [0xED, 0xB3]
  | .lddr => [0xED, 0xB8]
  | .cpdr => [0xED, 0xB9]
  | .indr => [0xED, 0xBA]
  | .otdr => [0xED, 0xBB]
  | .add_IX_BC => [0xDD, 0x09]
  | .add_IX_DE => [0xDD, 0x19]
  | .inc_IX => [0xDD, 0x23]
  | .inc_IXh => [0xDD, 0x24]
  | .dec_IXh => [0xDD, 0x25]
  | .add_IX_IX => [0xDD, 0x29]
  | .dec_IX => [0xDD, 0x2B]
  | .inc_IXl => [0xDD, 0x2C]
  | .dec_IXl => [0xDD, 0x2D]
  | .add_IX_SP => [0xDD, 0x39]
  | .ld_B_IXh => [0xDD, 0x44]
  | .ld_B_IXl => [0xDD, 0x45]
  | .ld_C_IXh => [0xDD, 0x4C]
  | .ld_C_IXl => [0xDD, 0x4D]
  | .ld_D_IXh => [0xDD, 0x54]
  | .ld_D_IXl => [0xDD, 0x55]
  | .ld_E_IXh => [0xDD, 0x5C]
  | .ld_E_IXl => [0xDD, 0x5D]
  | .ld_IXh_B => [0xDD, 0x60]
  | .ld_IXh_C => [0xDD, 0x61]
  | .ld_IXh_D => [0xDD, 0x62]
  | .ld_IXh_E => [0xDD, 0x63]
  | .ld_IXh_IXh => [0xDD, 0x64]
  | .ld_IXh_IXl => [0xDD, 0x65]
  | .ld_IXh_A => [0xDD, 0x67]
  | .ld_IXl_B => [0xDD, 0x68]
  | .ld_IXl_C => [0xDD, 0x69]
  | .ld_IXl_D => [0xDD, 0x6A]
  | .ld_IXl_E => [0xDD, 0x6B]
  | .ld_IXl_IXh => [0xDD, 0x6C]
  | .ld_IXl_IXl => [0xDD, 0x6D]
  | .ld_IXl_A => [0xDD, 0x6F]
  | .ld_A_IXh => [0xDD, 0x7C]
  | .ld_A_IXl => [0xDD, 0x7D]
  | .add_A_IXh => [0xDD, 0x84]
  | .add_A_IXl => [0xDD, 0x85]
  | .adc_A_IXh => [0xDD, 0x8C]
  | .adc_A_IXl => [0xDD, 0x8D]
  | .sub_IXh => [0xDD, 0x94]
  | .sub_IXl => [0xDD, 0x95]
  | .sbc_A_IXh => [0xDD, 0x9C]
  | .sbc_A_IXl => [0xDD, 0x9D]
  | .and_IXh => [0xDD, 0xA4]
  | .and_IXl => [0xDD, 0xA5]
  | .xor_IXh => [0xDD, 0xAC]
  | .xor_IXl => [0xDD, 0xAD]
  | .or_IXh => [0xDD, 0xB4]
  | .or_IXl => [0xDD, 0xB5]
  | .cp_IXh => [0xDD, 0xBC]
  | .cp_IXl => [0xDD, 0xBD]
  | .pop_IX => [0xDD, 0xE1]
  | .ex_mSP_IX => [0xDD, 0xE3]
  | .push_IX => [0xDD, 0xE5]
  | .jp_mIX => [0xDD, 0xE9]
  | .ld_SP_IX => [0xDD, 0xF9]
  | .add_IY_BC => [0xFD, 0x09]
  | .add_IY_DE => [0xFD, 0x19]
  | .inc_IY => [0xFD, 0x23]
  | .inc_IYh => [0xFD, 0x24]
  | .dec_IYh => [0xFD, 0x25]
  | .add_IY_IY => [0xFD, 0x29]
  | .dec_IY => [0xFD, 0x2B]
  | .inc_IYl => [0xFD, 0x2C]
  | .dec_IYl => [0xFD, 0x2D]
  | .add_IY_SP => [0xFD, 0x39]
  | .ld_B_IYh => [0xFD, 0x44]
  | .ld_B_IYl => [0xFD, 0x45]
  | .ld_C_IYh => [0xFD, 0x4C]
  | .ld_C_IYl => [0xFD, 0x4D]
  | .ld_D_IYh => [0xFD, 0x54]
  | .ld_D_IYl => [0xFD, 0x55]
  | .ld_E_IYh => [0xFD, 0x5C]
  | .ld_E_IYl => [0xFD, 0x5D]
  | .ld_IYh_B => [0xFD, 0x60]
  | .ld_IYh_C => [0xFD, 0x61]
  | .ld_IYh_D => [0xFD, 0x62]
  | .ld_IYh_E => [0xFD, 0x63]
  | .ld_IYh_IYh => [0xFD, 0x64]
  | .ld_IYh_IYl => [0xFD, 0x65]
  | .ld_IYh_A => [0xFD, 0x67]
  | .ld_IYl_B => [0xFD, 0x68]
  | .ld_IYl_C => [0xFD, 0x69]
  | .ld_IYl_D => [0xFD, 0x6A]
  | .ld_IYl_E => [0xFD, 0x6B]
  | .ld_IYl_IYh => [0xFD, 0x6C]
  | .ld_IYl_IYl => [0xFD, 0x6D]
  | .ld_IYl_A => [0xFD, 0x6F]
  | .ld_A_IYh => [0xFD, 0x7C]
  | .ld_A_IYl => [0xFD, 0x7D]
  | .add_A_IYh => [0xFD, 0x84]
  | .add_A_IYl => [0xFD, 0x85]
  | .adc_A_IYh => [0xFD, 0x8C]
  | .adc_A_IYl => [0xFD, 0x8D]
  | .sub_IYh => [0xFD, 0x94]
  | .sub_IYl => [0xFD, 0x95]
  | .sbc_A_IYh => [0xFD, 0x9C]
  | .sbc_A_IYl => [0xFD, 0x9D]
  | .and_IYh => [0xFD, 0xA4]
  | .and_IYl => [0xFD, 0xA5]
  | .xor_IYh => [0xFD, 0xAC]
  | .xor_IYl => [0xFD, 0xAD]
  | .or_IYh => [0xFD, 0xB4]
  | .or_IYl => [0xFD, 0xB5]
  | .cp_IYh => [0xFD, 0xBC]
  | .cp_IYl => [0xFD, 0xBD]
  | .pop_IY => [0xFD, 0xE1]
  | .ex_mSP_IY => [0xFD, 0xE3]
  | .push_IY => [0xFD, 0xE5]
  | .jp_mIY => [0xFD, 0xE9]
  | .ld_SP_IY => [0xFD, 0xF9]

/-- The low `n` bytes of a number, the most significant first: the table numbers an encoding's bits with the first
byte most significant (R110; log 14). -/
def tableBytes : Nat → Nat → List Byte
  | 0, _ => []
  | n + 1, w => BitVec.ofNat 8 (w / 256 ^ n) :: tableBytes n w

/-- An encoding of `nbits` bits as the hardware stores it, then zeros up to the longest instruction, four bytes
(R98). -/
def tableLayout (nbits w : Nat) : List Byte :=
  tableBytes (nbits / 8) w ++ List.replicate (4 - nbits / 8) 0x00

/-- The instruction the decoder reads from an encoding given as a number, its bits numbered as
spec/opcode_table.json numbers them (log 14). -/
def decodeTableWord (nbits w : Nat) : Option Instr :=
  match decode (tableLayout nbits w) with
  | .instr i _ _ => some i
  | .unknownOpcode _ => none
  | .truncated => none

end Sys2Proof
end

