-- ==== Sys2Proof/Machine/Flags.lean ====
section
/-! DEFINITION. The flag byte as eight flags (10_state.md R30, R31) and the ALU and flag functions of
40_alu.md (R140 to R180). Each function is pure: operands and flags in, result and flags out. A flag a rule does
not name keeps its value (00_scope.md R9). Arithmetic is done on integers and narrowed at the end (R158). -/

namespace Sys2Proof.Machine

/-- The eight flags of F: "8 independent boolean flags ... always derivable to/from a single byte" (R31). -/
structure Flags where
  s : Bool
  z : Bool
  y : Bool
  h : Bool
  x : Bool
  pv : Bool
  n : Bool
  c : Bool
  deriving DecidableEq, Repr

/-- `flagsToByte`: S Z Y H X PV N C in bits 7 down to 0 (R30). -/
def Flags.toByte (f : Flags) : Byte :=
  BitVec.ofBool f.s ++ BitVec.ofBool f.z ++ BitVec.ofBool f.y ++ BitVec.ofBool f.h ++
  BitVec.ofBool f.x ++ BitVec.ofBool f.pv ++ BitVec.ofBool f.n ++ BitVec.ofBool f.c

/-- `byteToFlags` (R31). -/
def Flags.ofByte (b : Byte) : Flags where
  s := b.getLsbD 7
  z := b.getLsbD 6
  y := b.getLsbD 5
  h := b.getLsbD 4
  x := b.getLsbD 3
  pv := b.getLsbD 2
  n := b.getLsbD 1
  c := b.getLsbD 0

/-- `SZXY(r)` (00_scope.md R11). -/
def szxy (r : Byte) (f : Flags) : Flags :=
  { f with s := r.getLsbD 7, z := decide (r = 0), y := r.getLsbD 5, x := r.getLsbD 3 }

/-- `add8(a, b, cin)` (R140). -/
def add8 (a b : Byte) (cin : Bool) : Byte × Flags :=
  let t := a.toNat + b.toNat + cin.toNat
  let r : Byte := BitVec.ofNat 8 t
  (r, { s := r.getLsbD 7
        z := decide (r = 0)
        y := r.getLsbD 5
        h := decide (a.toNat % 16 + b.toNat % 16 + cin.toNat > 0x0F)
        x := r.getLsbD 3
        pv := (a.getLsbD 7 == b.getLsbD 7) && (r.getLsbD 7 != a.getLsbD 7)
        n := false
        c := decide (t > 0xFF) })

/-- `sub8(a, b, cin)` (R141). -/
def sub8 (a b : Byte) (cin : Bool) : Byte × Flags :=
  let t : Int := (a.toNat : Int) - b.toNat - cin.toNat
  let r : Byte := BitVec.ofInt 8 t
  (r, { s := r.getLsbD 7
        z := decide (r = 0)
        y := r.getLsbD 5
        h := decide (a.toNat % 16 < b.toNat % 16 + cin.toNat)
        x := r.getLsbD 3
        pv := (a.getLsbD 7 != b.getLsbD 7) && (r.getLsbD 7 != a.getLsbD 7)
        n := true
        c := decide (t < 0) })

/-- `cp8(a, b)` (R143, C7): the flags of sub8, the result discarded. -/
def cp8 (a b : Byte) : Flags := (sub8 a b false).2

/-- The flags AND, OR and XOR share: S, Z, X, Y and parity of the result, N and C cleared (R144 to R146). -/
def logicFlags (r : Byte) (h : Bool) : Flags where
  s := r.getLsbD 7
  z := decide (r = 0)
  y := r.getLsbD 5
  h := h
  x := r.getLsbD 3
  pv := parity r
  n := false
  c := false

/-- `and8(a, b)` (R144). -/
def and8 (a b : Byte) : Byte × Flags := (a &&& b, logicFlags (a &&& b) true)

/-- `or8(a, b)` (R145). -/
def or8 (a b : Byte) : Byte × Flags := (a ||| b, logicFlags (a ||| b) false)

/-- `xor8(a, b)` (R146). -/
def xor8 (a b : Byte) : Byte × Flags := (a ^^^ b, logicFlags (a ^^^ b) false)

/-- `alu[y]` on A and s: the new A and the new flags (30_encoding.md R92, R255 to R262). CP keeps A. -/
def alu (op : AluOp) (a v : Byte) (f : Flags) : Byte × Flags :=
  match op with
  | .add => add8 a v false
  | .adc => add8 a v f.c
  | .sub => sub8 a v false
  | .sbc => sub8 a v f.c
  | .and => and8 a v
  | .xor => xor8 a v
  | .or => or8 a v
  | .cp => (a, cp8 a v)

/-- `inc8(v)` (R148): C unchanged. -/
def inc8 (v : Byte) (f : Flags) : Byte × Flags :=
  let r := v + 1
  (r, { szxy r f with
        h := decide (v.toNat % 16 = 0x0F)
        pv := decide (v = 0x7F)
        n := false })

/-- `dec8(v)` (R149): C unchanged. -/
def dec8 (v : Byte) (f : Flags) : Byte × Flags :=
  let r := v - 1
  (r, { szxy r f with
        h := decide (v.toNat % 16 = 0x00)
        pv := decide (v = 0x80)
        n := true })

/-- `add16(a, b)` (R150): S, Z and PV unchanged; X and Y are bits 11 and 13 of the result (C2). -/
def add16 (a b : Word) (f : Flags) : Word × Flags :=
  let t := a.toNat + b.toNat
  let r : Word := BitVec.ofNat 16 t
  (r, { f with
        h := decide (a.toNat % 0x1000 + b.toNat % 0x1000 > 0x0FFF)
        n := false
        c := decide (t > 0xFFFF)
        y := r.getLsbD 13
        x := r.getLsbD 11 })

/-- `adc16(a, b, cin)` (R151). -/
def adc16 (a b : Word) (cin : Bool) : Word × Flags :=
  let t := a.toNat + b.toNat + cin.toNat
  let r : Word := BitVec.ofNat 16 t
  (r, { s := r.getLsbD 15
        z := decide (r = 0)
        y := r.getLsbD 13
        h := decide (a.toNat % 0x1000 + b.toNat % 0x1000 + cin.toNat > 0x0FFF)
        x := r.getLsbD 11
        pv := (a.getLsbD 15 == b.getLsbD 15) && (r.getLsbD 15 != a.getLsbD 15)
        n := false
        c := decide (t > 0xFFFF) })

/-- `sbc16(a, b, cin)` (R152). -/
def sbc16 (a b : Word) (cin : Bool) : Word × Flags :=
  let t : Int := (a.toNat : Int) - b.toNat - cin.toNat
  let r : Word := BitVec.ofInt 16 t
  (r, { s := r.getLsbD 15
        z := decide (r = 0)
        y := r.getLsbD 13
        h := decide (a.toNat % 0x1000 < b.toNat % 0x1000 + cin.toNat)
        x := r.getLsbD 11
        pv := (a.getLsbD 15 != b.getLsbD 15) && (r.getLsbD 15 != a.getLsbD 15)
        n := true
        c := decide (t < 0) })

/-- A bit as a byte, for the bit shifted in. -/
def bitByte (b : Bool) : Byte := (BitVec.ofBool b).setWidth 8

/-- The flags the accumulator rotates share (R153): H and N cleared, X and Y from the new A, S, Z, PV kept. -/
def accRotFlags (r : Byte) (c : Bool) (f : Flags) : Flags :=
  { f with h := false, n := false, y := r.getLsbD 5, x := r.getLsbD 3, c := c }

/-- `rlca` (R153). -/
def rlca (a : Byte) (f : Flags) : Byte × Flags :=
  let r := (a <<< 1) ||| bitByte (a.getLsbD 7)
  (r, accRotFlags r (a.getLsbD 7) f)

/-- `rrca` (R153). -/
def rrca (a : Byte) (f : Flags) : Byte × Flags :=
  let r := (a >>> 1) ||| (bitByte (a.getLsbD 0) <<< 7)
  (r, accRotFlags r (a.getLsbD 0) f)

/-- `rla` (R153). -/
def rla (a : Byte) (f : Flags) : Byte × Flags :=
  let r := (a <<< 1) ||| bitByte f.c
  (r, accRotFlags r (a.getLsbD 7) f)

/-- `rra` (R153). -/
def rra (a : Byte) (f : Flags) : Byte × Flags :=
  let r := (a >>> 1) ||| (bitByte f.c <<< 7)
  (r, accRotFlags r (a.getLsbD 0) f)

/-- The flags the CB rotates and shifts share (R154). -/
def rotFlags (r : Byte) (c : Bool) : Flags :=
  { logicFlags r false with c := c }

/-- `rot[y]` on a byte: the result and the flags (R154). -/
def rotate (op : RotOp) (v : Byte) (f : Flags) : Byte × Flags :=
  match op with
  | .rlc => let r := (v <<< 1) ||| bitByte (v.getLsbD 7); (r, rotFlags r (v.getLsbD 7))
  | .rrc => let r := (v >>> 1) ||| (bitByte (v.getLsbD 0) <<< 7); (r, rotFlags r (v.getLsbD 0))
  | .rl => let r := (v <<< 1) ||| bitByte f.c; (r, rotFlags r (v.getLsbD 7))
  | .rr => let r := (v >>> 1) ||| (bitByte f.c <<< 7); (r, rotFlags r (v.getLsbD 0))
  | .sla => let r := v <<< 1; (r, rotFlags r (v.getLsbD 7))
  | .sra => let r := (v >>> 1) ||| (v &&& 0x80); (r, rotFlags r (v.getLsbD 0))
  | .srl => let r := v >>> 1; (r, rotFlags r (v.getLsbD 0))

/-- `daa()` (R155): N unchanged. -/
def daa (a : Byte) (f : Flags) : Byte × Flags :=
  let lo := a.toNat % 16
  let corrLo : Byte := if f.h || decide (lo > 9) then 0x06 else 0x00
  let high := f.c || decide (a.toNat > 0x99)
  let corr : Byte := if high then corrLo + 0x60 else corrLo
  let r := if f.n then a - corr else a + corr
  (r, { szxy r f with
        h := if f.n then f.h && decide (lo < 6) else decide (lo > 9)
        pv := parity r
        c := high })

/-- `bit(b, v)` (R156): C unchanged; X and Y are the caller's. -/
def bitTest (b : Nat) (v : Byte) (f : Flags) : Flags :=
  { f with
    z := !(v.getLsbD b)
    pv := !(v.getLsbD b)
    s := decide (b = 7) && v.getLsbD 7
    h := true
    n := false }

/-- The flags of IN r,(C), LD A,I, LD A,R, RRD and RLD: SZXY of the value, H and N cleared, PV given, C kept
(45_ed_prefix.md R350, R366 to R369). -/
def loadFlags (v : Byte) (pv : Bool) (f : Flags) : Flags :=
  { szxy v f with h := false, pv := pv, n := false }

/-- The flags of the copy block instructions (46_block.md R392): S, Z, C kept. `n` is v + A. -/
def copyFlags (v a : Byte) (bcLeft : Bool) (f : Flags) : Flags :=
  let n := v + a
  { f with h := false, n := false, pv := bcLeft, x := n.getLsbD 3, y := n.getLsbD 1 }

/-- The flags of the compare block instructions (R396): C kept. `n` is A - v - H. -/
def compareFlags (a v : Byte) (bcLeft : Bool) (f : Flags) : Flags :=
  let r := a - v
  let h := decide (a.toNat % 16 < v.toNat % 16)
  let n := r - bitByte h
  { f with
    s := r.getLsbD 7
    z := decide (r = 0)
    h := h
    n := true
    pv := bcLeft
    x := n.getLsbD 3
    y := n.getLsbD 1 }

/-- `cond(k)`: the eight condition codes (R180). -/
def cond (c : Cond) (f : Flags) : Bool :=
  match c with
  | .nz => !f.z
  | .z => f.z
  | .nc => !f.c
  | .c => f.c
  | .po => !f.pv
  | .pe => f.pv
  | .p => !f.s
  | .m => f.s

end Sys2Proof.Machine
end

