-- ==== Sys2Proof/Machine/Memory.lean ====
section
/-! DEFINITION. The memory the core's adapter answers from: plain RAM of 65536 bytes (20_memory.md R60, log 4),
as a list of cells in one canonical form: addresses strictly rising and below 65536, no cell equal to what an
unlisted address reads as. -/

namespace Sys2Proof.Machine

/-- The cells that do not read as `Memory.unlisted`, by rising address. -/
abbrev Memory := List Host.Cell

/-- What an unlisted address reads as. DESIGN CHOICE (log 4), unsafe: the spec leaves memory contents to the host
(70_reset_and_hazards.md R523); 0x00 is what the test vectors' start state S0 takes. -/
def Memory.unlisted : Byte := 0x00

/-- The byte at an address given as a number. -/
def Memory.readNat : Memory → Nat → Byte
  | [], _ => Memory.unlisted
  | (b, w) :: m, a => if a = b then w else Memory.readNat m a

/-- The byte at an address (R60). -/
def Memory.read (m : Memory) (a : Word) : Byte := Memory.readNat m a.toNat

/-- Store a byte at an address given as a number, keeping the canonical form: storing the unlisted value removes
the cell. -/
def Memory.writeNat : Memory → Nat → Byte → Memory
  | [], a, v => if v = Memory.unlisted then [] else [(a, v)]
  | (b, w) :: m, a, v =>
    if a < b then
      if v = Memory.unlisted then (b, w) :: m else (a, v) :: (b, w) :: m
    else if a = b then
      if v = Memory.unlisted then m else (a, v) :: m
    else (b, w) :: Memory.writeNat m a v

/-- Store a byte at an address (R60). -/
def Memory.write (m : Memory) (a : Word) (v : Byte) : Memory := Memory.writeNat m a.toNat v

/-- Every cell is at `lo` or above, below 65536, rising, and not the unlisted value. -/
def Memory.wfFrom : Nat → Memory → Bool
  | _, [] => true
  | lo, (a, v) :: m =>
    decide (lo ≤ a) && decide (a < 65536) && decide (v ≠ Memory.unlisted) && Memory.wfFrom (a + 1) m

/-- The canonical form. -/
def Memory.wf (m : Memory) : Bool := Memory.wfFrom 0 m

/-- Store a list of bytes at rising addresses, modulo 65536. -/
def Memory.writeBytes : Memory → Word → List Byte → Memory
  | m, _, [] => m
  | m, a, v :: vs => Memory.writeBytes (Memory.write m a v) (a + 1) vs

end Sys2Proof.Machine
end

