-- ==== Sys2Proof/Machine/State.lean ====
section
/-! DEFINITION. The state of the machine as plain data (10_state.md R20), its reset (R48, R520), and the reasons a
step can stop (60_exceptions.md R480). -/

namespace Sys2Proof.Machine

/-- The adapter a call goes to (60_exceptions.md R480). -/
inductive Adapter where
  | mem
  | io
  | registry
  deriving DecidableEq, Repr

/-- The operation called (20_memory.md R60, R61, 60_exceptions.md R490). -/
inductive CallName where
  | readByte
  | writeByte
  | getPendingSource
  | acceptInterrupt
  | interruptFinish
  deriving DecidableEq, Repr

/-- A completed adapter or registry call with what went each way; `State.trace` lists them (R69, log 10). -/
inductive BusCall where
  | memRead (a : Word) (v : Byte)
  | memWrite (a : Word) (v : Byte)
  | ioRead (port : Word) (v : Byte)
  | ioWrite (port : Word) (v : Byte)
  | getPendingSource (answer : Option Nat)
  | acceptInterrupt (handle : Nat) (vector : Byte)
  | interruptFinish (handle : Nat)
  deriving DecidableEq, Repr

/-- A pending source as the registry returns it: its handle, and the vector its `acceptInterrupt()` answers
(R490, R493; log 6). -/
structure Source where
  handle : Nat
  vector : Byte
  deriving DecidableEq, Repr

/-- The fault record `{kind, info}` with the info fields of R480. -/
inductive FaultRecord where
  | unknownOpcode (pc : Word) (bytes : List Byte)
  | unsupportedInterruptMode (pc : Word) (im : IMode) (vector : Option Byte)
  | adapterError (pc : Word) (adapter : Adapter) (call : CallName) (address : Option Word) (error : Nat)
  deriving DecidableEq, Repr

/-- The machine. The fields from `a` to `fault` are the spec's table (R20); `mem` and `params` are bound to the
core (R6, R50); the last six are the MODEL'S OWN (log 5 to 11). -/
structure State where
  /-- A (R21). -/
  a : Byte
  /-- F, as eight flags (R30, R31). -/
  f : Flags
  /-- B (R21). -/
  b : Byte
  /-- C (R21). -/
  c : Byte
  /-- D (R21). -/
  d : Byte
  /-- E (R21). -/
  e : Byte
  /-- H (R21). -/
  h : Byte
  /-- L (R21). -/
  l : Byte
  /-- A' (R23). -/
  aAlt : Byte
  /-- F' (R23). -/
  fAlt : Flags
  /-- B' (R23). -/
  bAlt : Byte
  /-- C' (R23). -/
  cAlt : Byte
  /-- D' (R23). -/
  dAlt : Byte
  /-- E' (R23). -/
  eAlt : Byte
  /-- H' (R23). -/
  hAlt : Byte
  /-- L' (R23). -/
  lAlt : Byte
  /-- IX (R24). -/
  ix : Word
  /-- IY (R24). -/
  iy : Word
  /-- SP (R25). -/
  sp : Word
  /-- PC (R26). -/
  pc : Word
  /-- I, 8 bits (R27, C1). -/
  i : Byte
  /-- R (R28, R36). -/
  r : Byte
  /-- IFF1 (R33). -/
  iff1 : Bool
  /-- IFF2 (R33). -/
  iff2 : Bool
  /-- IM (R34). -/
  im : IMode
  /-- The "last instruction was EI/DI" flag (R35). -/
  eiDiDelay : Bool
  /-- Set by HALT until an acceptance or reset (R37). -/
  halted : Bool
  /-- The cumulative T-state counter (R38, D15). -/
  tstates : Nat
  /-- The in-service list, most recent first (R47). -/
  inService : List Nat
  /-- None while the core runs (R46). -/
  fault : Option FaultRecord
  /-- The memory behind the memory adapter (R60, log 4). -/
  mem : Memory
  /-- The construction parameters (R6, R522). -/
  params : Params
  /-- Model's own: `start` of R90 and R101, the PC that fault records name (log 11). -/
  start : Word
  /-- Model's own: the answers of the coming I/O reads (R61, log 5). -/
  ioIn : List Byte
  /-- Model's own: the answers of the coming `getPendingSource()` calls; none pending when it is empty (log 6). -/
  irqs : List (Option Source)
  /-- Model's own: for each coming adapter or registry call, the error it reports, if any; no error when it is
  empty (R483, log 7). -/
  adapterErrs : List (Option Nat)
  /-- Model's own: the completed calls, newest first (R69, log 10). -/
  trace : List BusCall
  /-- Model's own: the counter of free values (R10, log 9). -/
  draws : Nat
  deriving DecidableEq, Repr

/-- The reset state over fresh adapters (R48, R522). The values the spec gives are R48's; the alternate set is
P_SHADOW_RESET and PC is P_RESET_PC, both from the parameters. -/
def State.construct (p : Params) : State where
  a := 0xFF
  f := Flags.ofByte 0xFF
  b := 0xFF
  c := 0xFF
  d := 0xFF
  e := 0xFF
  h := 0xFF
  l := 0xFF
  aAlt := p.shadowA
  fAlt := Flags.ofByte p.shadowF
  bAlt := p.shadowB
  cAlt := p.shadowC
  dAlt := p.shadowD
  eAlt := p.shadowE
  hAlt := p.shadowH
  lAlt := p.shadowL
  ix := 0xFFFF
  iy := 0xFFFF
  sp := 0xFFFF
  pc := p.resetPC
  i := 0x00
  r := 0x00
  iff1 := false
  iff2 := false
  im := .im0
  eiDiDelay := false
  halted := false
  tstates := 0
  inService := []
  fault := none
  mem := []
  params := p
  start := p.resetPC
  ioIn := []
  irqs := []
  adapterErrs := []
  trace := []
  draws := 0

/-- `reset()` on a running core (R520, R521): every core field to its reset value, the parameters, the memory and
what the adapters and the registry will answer kept, no call made, a fault cleared. -/
def State.hostReset (s : State) : State :=
  { State.construct s.params with
    mem := s.mem
    ioIn := s.ioIn
    irqs := s.irqs
    adapterErrs := s.adapterErrs
    trace := s.trace
    draws := s.draws }

/-- The machine right after reset, with the parameters `Params.default` (R48; log 1, 2, 3, 13). -/
def State.reset : State := State.construct Params.default

/-- Why the machine stops with a fault: the three kinds of R480. Each carries the core as the fault leaves it, its
`fault` field holding the record (R46, R484; log 12). -/
inductive Fault where
  /-- Raised by the decoder at an encoding outside the admitted set (R97, R481). Safe: the spec's own fault. -/
  | unknownOpcode (core : State)
  /-- Raised by interrupt acceptance in a mode the implementation does not support, and in mode 0 for a vector
  that is no RST byte (R482, R497). Safe: the spec's own fault. -/
  | unsupportedInterruptMode (core : State)
  /-- Raised by any adapter or registry call that reports an error (R78, R483). Safe: the spec's own fault. -/
  | adapterError (core : State)
  deriving DecidableEq, Repr

/-- Why the model gives no step. -/
inductive Refusal where
  /-- Raised by `exec`'s arm of an instruction that has no meaning yet. Safe: no behaviour is claimed. -/
  | notModelled (mnemonic : String)
  /-- Raised by `step` on a core whose `fault` is not none: "While fault is not none the core has no step" (R46).
  Safe: the spec gives no step. -/
  | coreFaulted
  deriving DecidableEq, Repr

/-- What an instruction or a step answers. -/
abbrev Out := Host.Outcome State Fault Refusal

end Sys2Proof.Machine
end

