-- ==== Sys2Proof/Machine/Ops.lean ====
section
/-! DEFINITION. The named operations over the adapters, the stack, the counters and the interrupt protocol
(00_scope.md R10, 20_memory.md, 60_exceptions.md). An operation that can stop the step takes the rest of the step
as its last argument: it either raises a fault or goes on with the value and the state after it. -/

namespace Sys2Proof.Machine

/-- The fault outcome of a record, over the faulted core. -/
def faultOf (record : FaultRecord) (s : State) : Fault :=
  match record with
  | .unknownOpcode _ _ => .unknownOpcode s
  | .unsupportedInterruptMode _ _ _ => .unsupportedInterruptMode s
  | .adapterError _ _ _ _ _ => .adapterError s

/-- `raise Fault(kind, info)` (R10, R480): the record is written to `fault` and the step ends where it stands,
keeping what was written before (R484). -/
def raise (record : FaultRecord) (s : State) : Out :=
  .fault (faultOf record { s with fault := some record })

/-- Record a completed call (R69, log 10). -/
def State.logged (ev : BusCall) (s : State) : State := { s with trace := ev :: s.trace }

/-- Add to the T-state counter (R38, R90). -/
def State.addT (n : Nat) (s : State) : State := { s with tstates := s.tstates + n }

/-- Write PC (R10). -/
def State.setPC (v : Word) (s : State) : State := { s with pc := v }

/-- Write A and F. -/
def State.setAF (p : Byte × Flags) (s : State) : State := { s with a := p.1, f := p.2 }

/-- Write F. -/
def State.setF (f : Flags) (s : State) : State := { s with f := f }

/-- `R <- (R & 0x80) | ((R + 1) & 0x7F)` (10_state.md R36). -/
def nextR (r : Byte) : Byte := (r &&& 0x80) ||| ((r + 1) &&& 0x7F)

/-- `IncR()` (R36). -/
def State.incR (s : State) : State := { s with r := nextR s.r }

/-- Store a byte in the RAM behind the memory adapter. -/
def State.store (a : Word) (v : Byte) (s : State) : State := { s with mem := s.mem.write a v }

/-- One adapter or registry call: it reports the next error of `adapterErrs`, which raises AdapterError at the call
(R78, R483), or it goes on. `failed` is what a failing call leaves behind. -/
def adapterCall (ad : Adapter) (call : CallName) (addr : Option Word) (failed : State → State) (s : State)
    (k : State → Out) : Out :=
  match s.adapterErrs with
  | some err :: es => raise (.adapterError s.start ad call addr err) (failed { s with adapterErrs := es })
  | none :: es => k { s with adapterErrs := es }
  | [] => k s

/-- `MemRead(addr, 1)` (R10, R60). -/
def memRead (a : Word) (s : State) (k : Byte → State → Out) : Out :=
  adapterCall .mem .readByte (some a) id s fun s =>
    k (s.mem.read a) (s.logged (.memRead a (s.mem.read a)))

/-- What a write that reported an error leaves in memory: "up to the adapter" (R483), a free value (log 8). -/
def failedWrite (a : Word) (v : Byte) (s : State) : State :=
  { s with
    mem := if Config.failedWriteLands s.draws then s.mem.write a v else s.mem
    draws := s.draws + 1 }

/-- `MemWrite(addr, 1, v)` (R10, R60). -/
def memWrite (a : Word) (v : Byte) (s : State) (k : State → Out) : Out :=
  adapterCall .mem .writeByte (some a) (failedWrite a v) s fun s =>
    k ((s.store a v).logged (.memWrite a v))

/-- `MemRead(addr, 2)`: low byte, then high byte at addr + 1 modulo 65536 (R10, R63, R64). -/
def memRead2 (a : Word) (s : State) (k : Word → State → Out) : Out :=
  memRead a s fun lo s => memRead (a + 1) s fun hi s => k (mkWord hi lo) s

/-- `MemWrite(addr, 2, v)`: low byte, then high byte at addr + 1 modulo 65536 (R10, R63, R64). -/
def memWrite2 (a : Word) (v : Word) (s : State) (k : State → Out) : Out :=
  memWrite a (loByte v) s fun s => memWrite (a + 1) (hiByte v) s k

/-- The answer of an I/O read: the next byte of the input list, else a free value (20_memory.md R61, log 5). -/
def ioAnswer (port : Word) (s : State) : Byte × State :=
  match s.ioIn with
  | v :: vs => (v, { s with ioIn := vs })
  | [] => (Config.ioByte s.draws port, { s with draws := s.draws + 1 })

/-- `IoRead(port)` (R10, R61). -/
def ioRead (port : Word) (s : State) (k : Byte → State → Out) : Out :=
  adapterCall .io .readByte (some port) id s fun s =>
    k (ioAnswer port s).1 ((ioAnswer port s).2.logged (.ioRead port (ioAnswer port s).1))

/-- `IoWrite(port, v)` (R10, R61): the call is the whole effect; the trace records it. -/
def ioWrite (port : Word) (v : Byte) (s : State) (k : State → Out) : Out :=
  adapterCall .io .writeByte (some port) id s fun s => k (s.logged (.ioWrite port v))

/-- `Push16(v)` (20_memory.md R66): the high byte first, at SP - 1, then the low byte at SP - 2. -/
def push16 (v : Word) (s : State) (k : State → Out) : Out :=
  memWrite (s.sp - 1) (hiByte v) { s with sp := s.sp - 1 } fun s =>
    memWrite (s.sp - 1) (loByte v) { s with sp := s.sp - 1 } k

/-- `Pop16()` (R67): the low byte at SP, then the high byte. -/
def pop16 (s : State) (k : Word → State → Out) : Out :=
  memRead s.sp s fun lo s =>
    memRead (s.sp + 1) { s with sp := s.sp + 1 } fun hi s =>
      k (mkWord hi lo) { s with sp := s.sp + 1 }

/-- The registry's next answer to `getPendingSource()`; none pending when the list is empty (log 6). -/
def pendingAnswer (s : State) : Option Source × State :=
  match s.irqs with
  | o :: os => (o, { s with irqs := os })
  | [] => (none, s)

/-- `Registry.getPendingSource()` (60_exceptions.md R490). -/
def getPendingSource (s : State) (k : Option Source → State → Out) : Out :=
  adapterCall .registry .getPendingSource none id s fun s =>
    k (pendingAnswer s).1 ((pendingAnswer s).2.logged (.getPendingSource ((pendingAnswer s).1.map Source.handle)))

/-- `h.acceptInterrupt()` (R490): the source answers its vector. -/
def callAcceptInterrupt (h : Source) (s : State) (k : Byte → State → Out) : Out :=
  adapterCall .registry .acceptInterrupt none id s fun s =>
    k h.vector (s.logged (.acceptInterrupt h.handle h.vector))

/-- `h.interruptFinish()` (R490, R499). -/
def callInterruptFinish (handle : Nat) (s : State) (k : State → Out) : Out :=
  adapterCall .registry .interruptFinish none id s fun s => k (s.logged (.interruptFinish handle))

/-- The address of the mode-2 table entry, `(I << 8) | v` (R494). -/
def vectorAddress (i v : Byte) : Word := mkWord i v

/-- The end of an acceptance (R493): PC to the handler, the handle to the head of the in-service list (R495), one
count in R and the cost (R498). -/
def enterHandler (target : Word) (handle : Nat) (cost : Nat) (s : State) : State :=
  State.addT cost (State.incR { s with pc := target, inService := handle :: s.inService })

/-- The push of PC and the jump of an acceptance whose target is known before the push (modes 0 and 1, R493). -/
def pushAndEnter (target : Word) (handle : Nat) (cost : Nat) (s : State) (k : State → Out) : Out :=
  push16 s.pc { s with halted := false } fun s => k (enterHandler target handle cost s)

/-- `AcceptInterrupt(h)` (R493): TAKING THE EXCEPTION. An unsupported mode faults before any state change (R482);
IFF1 and IFF2 are cleared, the source's vector is read, PC is pushed, and PC goes to the RST target of the vector
(mode 0, R497), to 0x0038 (mode 1, R496) or to the word at I:v (mode 2, R494). The step then goes on. -/
def acceptInterrupt (h : Source) (s : State) (k : State → Out) : Out :=
  if s.params.supports s.im then
    callAcceptInterrupt h { s with iff1 := false, iff2 := false } fun v s =>
      match s.im with
      | .im0 =>
        if v &&& 0xC7 = 0xC7 then pushAndEnter (zext16 (v &&& 0x38)) h.handle 13 s k
        else raise (.unsupportedInterruptMode s.pc .im0 (some v)) s
      | .im1 => pushAndEnter 0x0038 h.handle 13 s k
      | .im2 =>
        push16 s.pc { s with halted := false } fun s =>
          memRead2 (vectorAddress s.i v) s fun target s => k (enterHandler target h.handle 19 s)
  else raise (.unsupportedInterruptMode s.pc s.im none) s

/-- The first action of a step (R90, R491, R492): no check when the last instruction was EI or DI, whose mark is
cleared; else, when IFF1 = 1, the registry is asked and the source it returns is accepted. -/
def interruptCheck (s : State) (k : State → Out) : Out :=
  if s.eiDiDelay then k { s with eiDiDelay := false }
  else if s.iff1 then
    getPendingSource s fun o s =>
      match o with
      | some h => acceptInterrupt h s k
      | none => k s
  else k s

/-- The return the two instructions RETN and RETI share (45_ed_prefix.md R361, R362): pop PC, IFF1 from IFF2. -/
def returnFromInterrupt (s : State) (k : State → Out) : Out :=
  pop16 s fun target s => k { s with pc := target, iff1 := s.iff2 }

/-- RETI's last action (R362, R499): the head of the in-service list is removed and finished; with an empty list
no call is made (D12). -/
def finishInService (s : State) (k : State → Out) : Out :=
  match s.inService with
  | handle :: rest => callInterruptFinish handle { s with inService := rest } k
  | [] => k s

/-- A halted step (R500): it fetches nothing, counts one in R and costs 4. -/
def haltedStep (s : State) : Out := .next (State.addT 4 s.incR)

end Sys2Proof.Machine
end

