-- ==== Sys2Proof/Machine/Operands.lean ====
section
/-! DEFINITION. The operand accessors (10_state.md R40 to R45, 47_index_prefix.md R421 to R423): registers, halves
and pairs under an index context, the memory operand's address, and the costs a context adds. -/

namespace Sys2Proof

/-- Is the register operand H or L, `reg8[4]` or `reg8[5]`? -/
def Reg8.isHL : Reg8 → Bool
  | .b => false
  | .c => false
  | .d => false
  | .e => false
  | .h => true
  | .l => true
  | .a => false

/-- Is the pair operand `reg16[2]`? -/
def Rp.isHL : Rp → Bool
  | .bc => false
  | .de => false
  | .hl => true
  | .sp => false

/-- Is the pair operand `reg16af[2]`? -/
def Rp2.isHL : Rp2 → Bool
  | .bc => false
  | .de => false
  | .hl => true
  | .af => false

end Sys2Proof

namespace Sys2Proof.Machine

/-- BC (R22). -/
def State.bc (s : State) : Word := mkWord s.b s.c

/-- DE (R22). -/
def State.de (s : State) : Word := mkWord s.d s.e

/-- HL (R22). -/
def State.hl (s : State) : Word := mkWord s.h s.l

/-- AF, assembled from A and the flag byte (R22, R31). -/
def State.af (s : State) : Word := mkWord s.a s.f.toByte

/-- Write BC (R22). -/
def State.setBC (v : Word) (s : State) : State := { s with b := hiByte v, c := loByte v }

/-- Write DE (R22). -/
def State.setDE (v : Word) (s : State) : State := { s with d := hiByte v, e := loByte v }

/-- Write HL (R22). -/
def State.setHL (v : Word) (s : State) : State := { s with h := hiByte v, l := loByte v }

/-- Write AF (R22, R31). -/
def State.setAFWord (v : Word) (s : State) : State :=
  { s with a := hiByte v, f := Flags.ofByte (loByte v) }

/-- `reg8[n]` for a register operand under a context (R40, R42): H and L become the halves of IX or IY. -/
def reg8 (x : Ctx) (n : Reg8) (s : State) : Byte :=
  match n with
  | .b => s.b
  | .c => s.c
  | .d => s.d
  | .e => s.e
  | .h => match x with
    | .none => s.h
    | .ix => hiByte s.ix
    | .iy => hiByte s.iy
  | .l => match x with
    | .none => s.l
    | .ix => loByte s.ix
    | .iy => loByte s.iy
  | .a => s.a

/-- `reg8[n] <- v` (R40, R42): writing a half keeps the other half. -/
def setReg8 (x : Ctx) (n : Reg8) (v : Byte) (s : State) : State :=
  match n with
  | .b => { s with b := v }
  | .c => { s with c := v }
  | .d => { s with d := v }
  | .e => { s with e := v }
  | .h => match x with
    | .none => { s with h := v }
    | .ix => { s with ix := mkWord v (loByte s.ix) }
    | .iy => { s with iy := mkWord v (loByte s.iy) }
  | .l => match x with
    | .none => { s with l := v }
    | .ix => { s with ix := mkWord (hiByte s.ix) v }
    | .iy => { s with iy := mkWord (hiByte s.iy) v }
  | .a => { s with a := v }

/-- `reg16[2]`: HL, or IX or IY under a context (R44, R421). -/
def regHL (x : Ctx) (s : State) : Word :=
  match x with
  | .none => s.hl
  | .ix => s.ix
  | .iy => s.iy

/-- `reg16[2] <- v` (R44, R421). -/
def setRegHL (x : Ctx) (v : Word) (s : State) : State :=
  match x with
  | .none => s.setHL v
  | .ix => { s with ix := v }
  | .iy => { s with iy := v }

/-- `reg16[p]` (R44). -/
def reg16 (x : Ctx) (p : Rp) (s : State) : Word :=
  match p with
  | .bc => s.bc
  | .de => s.de
  | .hl => regHL x s
  | .sp => s.sp

/-- `reg16[p] <- v` (R44). -/
def setReg16 (x : Ctx) (p : Rp) (v : Word) (s : State) : State :=
  match p with
  | .bc => s.setBC v
  | .de => s.setDE v
  | .hl => setRegHL x v s
  | .sp => { s with sp := v }

/-- `reg16af[p]` (R45). -/
def reg16af (x : Ctx) (p : Rp2) (s : State) : Word :=
  match p with
  | .bc => s.bc
  | .de => s.de
  | .hl => regHL x s
  | .af => s.af

/-- `reg16af[p] <- v` (R45). -/
def setReg16af (x : Ctx) (p : Rp2) (v : Word) (s : State) : State :=
  match p with
  | .bc => s.setBC v
  | .de => s.setDE v
  | .hl => setRegHL x v s
  | .af => s.setAFWord v

/-- The effective address of the memory operand `reg8[6]`: HL, or IX or IY plus the displacement, modulo 65536
(R41, R422). The displacement counts only under an index context. -/
def ea (x : Ctx) (d : Byte) (s : State) : Word :=
  match x with
  | .none => s.hl
  | .ix => s.ix + sext16 d
  | .iy => s.iy + sext16 d

/-- The T-states the DD or FD byte of a substitution form adds (70_reset_and_hazards.md R540, 47_index_prefix.md
R431). -/
def ctxT (x : Ctx) : Nat :=
  match x with
  | .none => 0
  | .ix => 4
  | .iy => 4

/-- The same where the instruction is a substitution form only when an operand is HL, H or L (`used`); otherwise a DD
or FD byte is pass-through and the step, not the instruction, adds its 4 T-states (R425). -/
def halfT (x : Ctx) (used : Bool) : Nat := if used then ctxT x else 0

/-- The cost of a memory form: (HL), or (IX+d) and (IY+d) with a cost of their own (R540, R431). -/
def memT (x : Ctx) (plain indexed : Nat) : Nat :=
  match x with
  | .none => plain
  | .ix => indexed
  | .iy => indexed

/-- The cost of a CB form on memory: `plain` for (HL), the cell of R540's CB table. For (IX+d) and (IY+d) the spec prints
two costs, `plain` again in R540's DD CB table and `counted` in R429's examples and the vectors M18 to M20; the parameter
says which (log 13). -/
def cbMemT (x : Ctx) (p : Params) (plain counted : Nat) : Nat :=
  if p.tableDDCB then plain else memT x plain counted

/-- The relative target `PC + sext_16(e)`, modulo 65536, with PC past the instruction (41_base_x0.md R204). -/
def relTarget (e : Byte) (s : State) : Word := s.pc + sext16 e

end Sys2Proof.Machine
end

