-- ==== Sys2Proof/Machine/Accum.lean ====
section
/-! DEFINITION. The accumulator and flag operations (41_base_x0.md R222 to R229). -/

namespace Sys2Proof.Machine

/-- RLCA, RRCA, RLA, RRA and DAA, given their function (R222 to R226). -/
def opAcc (g : Byte → Flags → Byte × Flags) (s : State) : Out :=
  .next (State.addT 4 (s.setAF (g s.a s.f)))

/-- CPL (R227). -/
def opCpl (s : State) : Out :=
  .next (State.addT 4
    (s.setAF (s.a ^^^ 0xFF,
      { s.f with h := true, n := true, y := (s.a ^^^ 0xFF).getLsbD 5, x := (s.a ^^^ 0xFF).getLsbD 3 })))

/-- X and Y drawn, in that order (`F.X <- any_bit(); F.Y <- any_bit()`, R228, R229; log 9). -/
def drawXY (f : Flags) (s : State) : State :=
  { s with f := { f with x := Config.anyBit s.draws, y := Config.anyBit (s.draws + 1) }, draws := s.draws + 2 }

/-- SCF (R228): C set, H and N cleared, X and Y drawn. -/
def opScf (s : State) : Out :=
  .next (State.addT 4 (drawXY { s.f with c := true, h := false, n := false } s))

/-- CCF (R229): H the old C, C inverted, N cleared, X and Y drawn. -/
def opCcf (s : State) : Out :=
  .next (State.addT 4 (drawXY { s.f with h := s.f.c, c := !s.f.c, n := false } s))

/-- `RLCA` (R222). -/
def exec_rlca (s : State) : Out := opAcc rlca s

/-- `RRCA` (R223). -/
def exec_rrca (s : State) : Out := opAcc rrca s

/-- `RLA` (R224). -/
def exec_rla (s : State) : Out := opAcc rla s

/-- `RRA` (R225). -/
def exec_rra (s : State) : Out := opAcc rra s

/-- `DAA` (R226). -/
def exec_daa (s : State) : Out := opAcc daa s

/-- `CPL` (R227). -/
def exec_cpl (s : State) : Out := opCpl s

/-- `SCF` (R228). -/
def exec_scf (s : State) : Out := opScf s

/-- `CCF` (R229). -/
def exec_ccf (s : State) : Out := opCcf s

end Sys2Proof.Machine
end

