-- ==== Sys2Proof/Machine/Arith16.lean ====
section
/-! DEFINITION. 16-bit arithmetic (41_base_x0.md R207, R216, R217, 45_ed_prefix.md R352, R353, 47_index_prefix.md R421). -/

namespace Sys2Proof.Machine

/-- ADD HL,rp, ADD IX,rp, ADD IY,rp (R207): source and destination under the context (R421). -/
def opAddHl (x : Ctx) (p : Rp) (s : State) : Out :=
  .next (State.addT (11 + ctxT x)
    (setRegHL x (add16 (regHL x s) (reg16 x p s) s.f).1 (s.setF (add16 (regHL x s) (reg16 x p s) s.f).2)))

/-- INC rp (R216): no flag. -/
def opIncRp (x : Ctx) (p : Rp) (s : State) : Out :=
  .next (State.addT (6 + halfT x p.isHL) (setReg16 x p (reg16 x p s + 1) s))

/-- DEC rp (R217): no flag. -/
def opDecRp (x : Ctx) (p : Rp) (s : State) : Out :=
  .next (State.addT (6 + halfT x p.isHL) (setReg16 x p (reg16 x p s - 1) s))

/-- ADC HL,rp (R353). -/
def opAdcHl (p : Rp) (s : State) : Out :=
  .next (State.addT 15
    (State.setHL (adc16 s.hl (reg16 .none p s) s.f.c).1 (s.setF (adc16 s.hl (reg16 .none p s) s.f.c).2)))

/-- SBC HL,rp (R352). -/
def opSbcHl (p : Rp) (s : State) : Out :=
  .next (State.addT 15
    (State.setHL (sbc16 s.hl (reg16 .none p s) s.f.c).1 (s.setF (sbc16 s.hl (reg16 .none p s) s.f.c).2)))

/-- `INC BC` (R216). -/
def exec_inc_BC (s : State) : Out := opIncRp .none .bc s

/-- `ADD HL,BC` (R207). -/
def exec_add_HL_BC (s : State) : Out := opAddHl .none .bc s

/-- `DEC BC` (R217). -/
def exec_dec_BC (s : State) : Out := opDecRp .none .bc s

/-- `INC DE` (R216). -/
def exec_inc_DE (s : State) : Out := opIncRp .none .de s

/-- `ADD HL,DE` (R207). -/
def exec_add_HL_DE (s : State) : Out := opAddHl .none .de s

/-- `DEC DE` (R217). -/
def exec_dec_DE (s : State) : Out := opDecRp .none .de s

/-- `INC HL` (R216). -/
def exec_inc_HL (s : State) : Out := opIncRp .none .hl s

/-- `ADD HL,HL` (R207). -/
def exec_add_HL_HL (s : State) : Out := opAddHl .none .hl s

/-- `DEC HL` (R217). -/
def exec_dec_HL (s : State) : Out := opDecRp .none .hl s

/-- `INC SP` (R216). -/
def exec_inc_SP (s : State) : Out := opIncRp .none .sp s

/-- `ADD HL,SP` (R207). -/
def exec_add_HL_SP (s : State) : Out := opAddHl .none .sp s

/-- `DEC SP` (R217). -/
def exec_dec_SP (s : State) : Out := opDecRp .none .sp s

/-- `SBC HL,BC` (R352). -/
def exec_sbc_HL_BC (s : State) : Out := opSbcHl .bc s

/-- `ADC HL,BC` (R353). -/
def exec_adc_HL_BC (s : State) : Out := opAdcHl .bc s

/-- `SBC HL,DE` (R352). -/
def exec_sbc_HL_DE (s : State) : Out := opSbcHl .de s

/-- `ADC HL,DE` (R353). -/
def exec_adc_HL_DE (s : State) : Out := opAdcHl .de s

/-- `SBC HL,HL` (R352). -/
def exec_sbc_HL_HL (s : State) : Out := opSbcHl .hl s

/-- `ADC HL,HL` (R353). -/
def exec_adc_HL_HL (s : State) : Out := opAdcHl .hl s

/-- `SBC HL,SP` (R352). -/
def exec_sbc_HL_SP (s : State) : Out := opSbcHl .sp s

/-- `ADC HL,SP` (R353). -/
def exec_adc_HL_SP (s : State) : Out := opAdcHl .sp s

/-- `ADD IX,BC` (R207). -/
def exec_add_IX_BC (s : State) : Out := opAddHl .ix .bc s

/-- `ADD IX,DE` (R207). -/
def exec_add_IX_DE (s : State) : Out := opAddHl .ix .de s

/-- `INC IX` (R216). -/
def exec_inc_IX (s : State) : Out := opIncRp .ix .hl s

/-- `ADD IX,IX` (R207). -/
def exec_add_IX_IX (s : State) : Out := opAddHl .ix .hl s

/-- `DEC IX` (R217). -/
def exec_dec_IX (s : State) : Out := opDecRp .ix .hl s

/-- `ADD IX,SP` (R207). -/
def exec_add_IX_SP (s : State) : Out := opAddHl .ix .sp s

/-- `ADD IY,BC` (R207). -/
def exec_add_IY_BC (s : State) : Out := opAddHl .iy .bc s

/-- `ADD IY,DE` (R207). -/
def exec_add_IY_DE (s : State) : Out := opAddHl .iy .de s

/-- `INC IY` (R216). -/
def exec_inc_IY (s : State) : Out := opIncRp .iy .hl s

/-- `ADD IY,IY` (R207). -/
def exec_add_IY_IY (s : State) : Out := opAddHl .iy .hl s

/-- `DEC IY` (R217). -/
def exec_dec_IY (s : State) : Out := opDecRp .iy .hl s

/-- `ADD IY,SP` (R207). -/
def exec_add_IY_SP (s : State) : Out := opAddHl .iy .sp s

end Sys2Proof.Machine
end

