-- ==== Sys2Proof/Machine/Arith8.lean ====
section
/-! DEFINITION. 8-bit arithmetic and logic, INC and DEC, NEG, RRD and RLD (41_base_x0.md R218, R219,
42_base_x1_x2.md R254 to R262, 45_ed_prefix.md R360, R368, R369). -/

namespace Sys2Proof.Machine

/-- `alu[y]` with the operand's value (R255 to R262). -/
def applyAlu (op : AluOp) (v : Byte) (s : State) : State := s.setAF (alu op s.a v s.f)

/-- ALU with a register or an index half (R254). -/
def opAluR (x : Ctx) (op : AluOp) (src : Reg8) (s : State) : Out :=
  .next (State.addT (4 + halfT x src.isHL) (applyAlu op (reg8 x src s) s))

/-- ALU with the memory operand, read once (R254). -/
def opAluM (x : Ctx) (op : AluOp) (d : Byte) (s : State) : Out :=
  memRead (ea x d s) s fun v s => .next (State.addT (memT x 7 19) (applyAlu op v s))

/-- ALU with an immediate (R254). -/
def opAluN (op : AluOp) (n : Byte) (s : State) : Out :=
  .next (State.addT 7 (applyAlu op n s))

/-- INC r and DEC r, given inc8 or dec8 (R218, R219). -/
def opStepR (g : Byte → Flags → Byte × Flags) (x : Ctx) (n : Reg8) (s : State) : Out :=
  .next (State.addT (4 + halfT x n.isHL) (setReg8 x n (g (reg8 x n s) s.f).1 (s.setF (g (reg8 x n s) s.f).2)))

/-- INC (HL), DEC (HL) and the indexed forms, given inc8 or dec8 (R218, R219): the address is computed once.
The function writes the flags as it computes the result, before the store (log 12). -/
def opStepM (g : Byte → Flags → Byte × Flags) (x : Ctx) (d : Byte) (s : State) : Out :=
  memRead (ea x d s) s fun v s1 =>
    memWrite (ea x d s) (g v s1.f).1 (s1.setF (g v s1.f).2) fun s2 =>
      .next (s2.addT (memT x 11 23))

/-- NEG (R360): `A <- sub8(0, A, 0)`. -/
def opNeg (s : State) : Out := .next (State.addT 8 (s.setAF (sub8 0 s.a false)))

/-- The byte RRD stores (R368): A's low nibble above the byte's high nibble. -/
def rrdMem (a m : Byte) : Byte := (a <<< 4) ||| (m >>> 4)

/-- The A RRD leaves (R368): A's high nibble, the byte's low nibble. -/
def rrdA (a m : Byte) : Byte := (a &&& 0xF0) ||| (m &&& 0x0F)

/-- The byte RLD stores (R369): the byte's low nibble above A's low nibble. -/
def rldMem (a m : Byte) : Byte := (m <<< 4) ||| (a &&& 0x0F)

/-- The A RLD leaves (R369): A's high nibble, the byte's high nibble. -/
def rldA (a m : Byte) : Byte := (a &&& 0xF0) ||| (m >>> 4)

/-- RRD and RLD (R368, R369), given what they store and leave in A: read, write, then A and the flags. -/
def opNibbles (toMem toA : Byte → Byte → Byte) (s : State) : Out :=
  memRead s.hl s fun m s1 =>
    memWrite s.hl (toMem s1.a m) s1 fun s2 =>
      .next (State.addT 18
        (s2.setAF (toA s2.a m, loadFlags (toA s2.a m) (parity (toA s2.a m)) s2.f)))

/-- `ADD A,n` (R255). -/
def exec_add_A_n (n : Byte) (s : State) : Out := opAluN .add n s

/-- `ADC A,n` (R256). -/
def exec_adc_A_n (n : Byte) (s : State) : Out := opAluN .adc n s

/-- `SUB n` (R257). -/
def exec_sub_n (n : Byte) (s : State) : Out := opAluN .sub n s

/-- `SBC A,n` (R258). -/
def exec_sbc_A_n (n : Byte) (s : State) : Out := opAluN .sbc n s

/-- `AND n` (R259). -/
def exec_and_n (n : Byte) (s : State) : Out := opAluN .and n s

/-- `XOR n` (R260). -/
def exec_xor_n (n : Byte) (s : State) : Out := opAluN .xor n s

/-- `OR n` (R261). -/
def exec_or_n (n : Byte) (s : State) : Out := opAluN .or n s

/-- `CP n` (R262). -/
def exec_cp_n (n : Byte) (s : State) : Out := opAluN .cp n s

/-- `INC (IX+d)` (R218). -/
def exec_inc_mIXd (d : Byte) (s : State) : Out := opStepM inc8 .ix d s

/-- `DEC (IX+d)` (R219). -/
def exec_dec_mIXd (d : Byte) (s : State) : Out := opStepM dec8 .ix d s

/-- `ADD A,(IX+d)` (R255). -/
def exec_add_A_mIXd (d : Byte) (s : State) : Out := opAluM .ix .add d s

/-- `ADC A,(IX+d)` (R256). -/
def exec_adc_A_mIXd (d : Byte) (s : State) : Out := opAluM .ix .adc d s

/-- `SUB (IX+d)` (R257). -/
def exec_sub_mIXd (d : Byte) (s : State) : Out := opAluM .ix .sub d s

/-- `SBC A,(IX+d)` (R258). -/
def exec_sbc_A_mIXd (d : Byte) (s : State) : Out := opAluM .ix .sbc d s

/-- `AND (IX+d)` (R259). -/
def exec_and_mIXd (d : Byte) (s : State) : Out := opAluM .ix .and d s

/-- `XOR (IX+d)` (R260). -/
def exec_xor_mIXd (d : Byte) (s : State) : Out := opAluM .ix .xor d s

/-- `OR (IX+d)` (R261). -/
def exec_or_mIXd (d : Byte) (s : State) : Out := opAluM .ix .or d s

/-- `CP (IX+d)` (R262). -/
def exec_cp_mIXd (d : Byte) (s : State) : Out := opAluM .ix .cp d s

/-- `INC (IY+d)` (R218). -/
def exec_inc_mIYd (d : Byte) (s : State) : Out := opStepM inc8 .iy d s

/-- `DEC (IY+d)` (R219). -/
def exec_dec_mIYd (d : Byte) (s : State) : Out := opStepM dec8 .iy d s

/-- `ADD A,(IY+d)` (R255). -/
def exec_add_A_mIYd (d : Byte) (s : State) : Out := opAluM .iy .add d s

/-- `ADC A,(IY+d)` (R256). -/
def exec_adc_A_mIYd (d : Byte) (s : State) : Out := opAluM .iy .adc d s

/-- `SUB (IY+d)` (R257). -/
def exec_sub_mIYd (d : Byte) (s : State) : Out := opAluM .iy .sub d s

/-- `SBC A,(IY+d)` (R258). -/
def exec_sbc_A_mIYd (d : Byte) (s : State) : Out := opAluM .iy .sbc d s

/-- `AND (IY+d)` (R259). -/
def exec_and_mIYd (d : Byte) (s : State) : Out := opAluM .iy .and d s

/-- `XOR (IY+d)` (R260). -/
def exec_xor_mIYd (d : Byte) (s : State) : Out := opAluM .iy .xor d s

/-- `OR (IY+d)` (R261). -/
def exec_or_mIYd (d : Byte) (s : State) : Out := opAluM .iy .or d s

/-- `CP (IY+d)` (R262). -/
def exec_cp_mIYd (d : Byte) (s : State) : Out := opAluM .iy .cp d s

/-- `INC B` (R218). -/
def exec_inc_B (s : State) : Out := opStepR inc8 .none .b s

/-- `DEC B` (R219). -/
def exec_dec_B (s : State) : Out := opStepR dec8 .none .b s

/-- `INC C` (R218). -/
def exec_inc_C (s : State) : Out := opStepR inc8 .none .c s

/-- `DEC C` (R219). -/
def exec_dec_C (s : State) : Out := opStepR dec8 .none .c s

/-- `INC D` (R218). -/
def exec_inc_D (s : State) : Out := opStepR inc8 .none .d s

/-- `DEC D` (R219). -/
def exec_dec_D (s : State) : Out := opStepR dec8 .none .d s

/-- `INC E` (R218). -/
def exec_inc_E (s : State) : Out := opStepR inc8 .none .e s

/-- `DEC E` (R219). -/
def exec_dec_E (s : State) : Out := opStepR dec8 .none .e s

/-- `INC H` (R218). -/
def exec_inc_H (s : State) : Out := opStepR inc8 .none .h s

/-- `DEC H` (R219). -/
def exec_dec_H (s : State) : Out := opStepR dec8 .none .h s

/-- `INC L` (R218). -/
def exec_inc_L (s : State) : Out := opStepR inc8 .none .l s

/-- `DEC L` (R219). -/
def exec_dec_L (s : State) : Out := opStepR dec8 .none .l s

/-- `INC (HL)` (R218). -/
def exec_inc_mHL (s : State) : Out := opStepM inc8 .none 0 s

/-- `DEC (HL)` (R219). -/
def exec_dec_mHL (s : State) : Out := opStepM dec8 .none 0 s

/-- `INC A` (R218). -/
def exec_inc_A (s : State) : Out := opStepR inc8 .none .a s

/-- `DEC A` (R219). -/
def exec_dec_A (s : State) : Out := opStepR dec8 .none .a s

/-- `ADD A,B` (R255). -/
def exec_add_A_B (s : State) : Out := opAluR .none .add .b s

/-- `ADD A,C` (R255). -/
def exec_add_A_C (s : State) : Out := opAluR .none .add .c s

/-- `ADD A,D` (R255). -/
def exec_add_A_D (s : State) : Out := opAluR .none .add .d s

/-- `ADD A,E` (R255). -/
def exec_add_A_E (s : State) : Out := opAluR .none .add .e s

/-- `ADD A,H` (R255). -/
def exec_add_A_H (s : State) : Out := opAluR .none .add .h s

/-- `ADD A,L` (R255). -/
def exec_add_A_L (s : State) : Out := opAluR .none .add .l s

/-- `ADD A,(HL)` (R255). -/
def exec_add_A_mHL (s : State) : Out := opAluM .none .add 0 s

/-- `ADD A,A` (R255). -/
def exec_add_A_A (s : State) : Out := opAluR .none .add .a s

/-- `ADC A,B` (R256). -/
def exec_adc_A_B (s : State) : Out := opAluR .none .adc .b s

/-- `ADC A,C` (R256). -/
def exec_adc_A_C (s : State) : Out := opAluR .none .adc .c s

/-- `ADC A,D` (R256). -/
def exec_adc_A_D (s : State) : Out := opAluR .none .adc .d s

/-- `ADC A,E` (R256). -/
def exec_adc_A_E (s : State) : Out := opAluR .none .adc .e s

/-- `ADC A,H` (R256). -/
def exec_adc_A_H (s : State) : Out := opAluR .none .adc .h s

/-- `ADC A,L` (R256). -/
def exec_adc_A_L (s : State) : Out := opAluR .none .adc .l s

/-- `ADC A,(HL)` (R256). -/
def exec_adc_A_mHL (s : State) : Out := opAluM .none .adc 0 s

/-- `ADC A,A` (R256). -/
def exec_adc_A_A (s : State) : Out := opAluR .none .adc .a s

/-- `SUB B` (R257). -/
def exec_sub_B (s : State) : Out := opAluR .none .sub .b s

/-- `SUB C` (R257). -/
def exec_sub_C (s : State) : Out := opAluR .none .sub .c s

/-- `SUB D` (R257). -/
def exec_sub_D (s : State) : Out := opAluR .none .sub .d s

/-- `SUB E` (R257). -/
def exec_sub_E (s : State) : Out := opAluR .none .sub .e s

/-- `SUB H` (R257). -/
def exec_sub_H (s : State) : Out := opAluR .none .sub .h s

/-- `SUB L` (R257). -/
def exec_sub_L (s : State) : Out := opAluR .none .sub .l s

/-- `SUB (HL)` (R257). -/
def exec_sub_mHL (s : State) : Out := opAluM .none .sub 0 s

/-- `SUB A` (R257). -/
def exec_sub_A (s : State) : Out := opAluR .none .sub .a s

/-- `SBC A,B` (R258). -/
def exec_sbc_A_B (s : State) : Out := opAluR .none .sbc .b s

/-- `SBC A,C` (R258). -/
def exec_sbc_A_C (s : State) : Out := opAluR .none .sbc .c s

/-- `SBC A,D` (R258). -/
def exec_sbc_A_D (s : State) : Out := opAluR .none .sbc .d s

/-- `SBC A,E` (R258). -/
def exec_sbc_A_E (s : State) : Out := opAluR .none .sbc .e s

/-- `SBC A,H` (R258). -/
def exec_sbc_A_H (s : State) : Out := opAluR .none .sbc .h s

/-- `SBC A,L` (R258). -/
def exec_sbc_A_L (s : State) : Out := opAluR .none .sbc .l s

/-- `SBC A,(HL)` (R258). -/
def exec_sbc_A_mHL (s : State) : Out := opAluM .none .sbc 0 s

/-- `SBC A,A` (R258). -/
def exec_sbc_A_A (s : State) : Out := opAluR .none .sbc .a s

/-- `AND B` (R259). -/
def exec_and_B (s : State) : Out := opAluR .none .and .b s

/-- `AND C` (R259). -/
def exec_and_C (s : State) : Out := opAluR .none .and .c s

/-- `AND D` (R259). -/
def exec_and_D (s : State) : Out := opAluR .none .and .d s

/-- `AND E` (R259). -/
def exec_and_E (s : State) : Out := opAluR .none .and .e s

/-- `AND H` (R259). -/
def exec_and_H (s : State) : Out := opAluR .none .and .h s

/-- `AND L` (R259). -/
def exec_and_L (s : State) : Out := opAluR .none .and .l s

/-- `AND (HL)` (R259). -/
def exec_and_mHL (s : State) : Out := opAluM .none .and 0 s

/-- `AND A` (R259). -/
def exec_and_A (s : State) : Out := opAluR .none .and .a s

/-- `XOR B` (R260). -/
def exec_xor_B (s : State) : Out := opAluR .none .xor .b s

/-- `XOR C` (R260). -/
def exec_xor_C (s : State) : Out := opAluR .none .xor .c s

/-- `XOR D` (R260). -/
def exec_xor_D (s : State) : Out := opAluR .none .xor .d s

/-- `XOR E` (R260). -/
def exec_xor_E (s : State) : Out := opAluR .none .xor .e s

/-- `XOR H` (R260). -/
def exec_xor_H (s : State) : Out := opAluR .none .xor .h s

/-- `XOR L` (R260). -/
def exec_xor_L (s : State) : Out := opAluR .none .xor .l s

/-- `XOR (HL)` (R260). -/
def exec_xor_mHL (s : State) : Out := opAluM .none .xor 0 s

/-- `XOR A` (R260). -/
def exec_xor_A (s : State) : Out := opAluR .none .xor .a s

/-- `OR B` (R261). -/
def exec_or_B (s : State) : Out := opAluR .none .or .b s

/-- `OR C` (R261). -/
def exec_or_C (s : State) : Out := opAluR .none .or .c s

/-- `OR D` (R261). -/
def exec_or_D (s : State) : Out := opAluR .none .or .d s

/-- `OR E` (R261). -/
def exec_or_E (s : State) : Out := opAluR .none .or .e s

/-- `OR H` (R261). -/
def exec_or_H (s : State) : Out := opAluR .none .or .h s

/-- `OR L` (R261). -/
def exec_or_L (s : State) : Out := opAluR .none .or .l s

/-- `OR (HL)` (R261). -/
def exec_or_mHL (s : State) : Out := opAluM .none .or 0 s

/-- `OR A` (R261). -/
def exec_or_A (s : State) : Out := opAluR .none .or .a s

/-- `CP B` (R262). -/
def exec_cp_B (s : State) : Out := opAluR .none .cp .b s

/-- `CP C` (R262). -/
def exec_cp_C (s : State) : Out := opAluR .none .cp .c s

/-- `CP D` (R262). -/
def exec_cp_D (s : State) : Out := opAluR .none .cp .d s

/-- `CP E` (R262). -/
def exec_cp_E (s : State) : Out := opAluR .none .cp .e s

/-- `CP H` (R262). -/
def exec_cp_H (s : State) : Out := opAluR .none .cp .h s

/-- `CP L` (R262). -/
def exec_cp_L (s : State) : Out := opAluR .none .cp .l s

/-- `CP (HL)` (R262). -/
def exec_cp_mHL (s : State) : Out := opAluM .none .cp 0 s

/-- `CP A` (R262). -/
def exec_cp_A (s : State) : Out := opAluR .none .cp .a s

/-- `NEG` (R360). -/
def exec_neg (s : State) : Out := opNeg s

/-- `RRD` (R368). -/
def exec_rrd (s : State) : Out := opNibbles rrdMem rrdA s

/-- `RLD` (R369). -/
def exec_rld (s : State) : Out := opNibbles rldMem rldA s

/-- `INC IXh` (R218). -/
def exec_inc_IXh (s : State) : Out := opStepR inc8 .ix .h s

/-- `DEC IXh` (R219). -/
def exec_dec_IXh (s : State) : Out := opStepR dec8 .ix .h s

/-- `INC IXl` (R218). -/
def exec_inc_IXl (s : State) : Out := opStepR inc8 .ix .l s

/-- `DEC IXl` (R219). -/
def exec_dec_IXl (s : State) : Out := opStepR dec8 .ix .l s

/-- `ADD A,IXh` (R255). -/
def exec_add_A_IXh (s : State) : Out := opAluR .ix .add .h s

/-- `ADD A,IXl` (R255). -/
def exec_add_A_IXl (s : State) : Out := opAluR .ix .add .l s

/-- `ADC A,IXh` (R256). -/
def exec_adc_A_IXh (s : State) : Out := opAluR .ix .adc .h s

/-- `ADC A,IXl` (R256). -/
def exec_adc_A_IXl (s : State) : Out := opAluR .ix .adc .l s

/-- `SUB IXh` (R257). -/
def exec_sub_IXh (s : State) : Out := opAluR .ix .sub .h s

/-- `SUB IXl` (R257). -/
def exec_sub_IXl (s : State) : Out := opAluR .ix .sub .l s

/-- `SBC A,IXh` (R258). -/
def exec_sbc_A_IXh (s : State) : Out := opAluR .ix .sbc .h s

/-- `SBC A,IXl` (R258). -/
def exec_sbc_A_IXl (s : State) : Out := opAluR .ix .sbc .l s

/-- `AND IXh` (R259). -/
def exec_and_IXh (s : State) : Out := opAluR .ix .and .h s

/-- `AND IXl` (R259). -/
def exec_and_IXl (s : State) : Out := opAluR .ix .and .l s

/-- `XOR IXh` (R260). -/
def exec_xor_IXh (s : State) : Out := opAluR .ix .xor .h s

/-- `XOR IXl` (R260). -/
def exec_xor_IXl (s : State) : Out := opAluR .ix .xor .l s

/-- `OR IXh` (R261). -/
def exec_or_IXh (s : State) : Out := opAluR .ix .or .h s

/-- `OR IXl` (R261). -/
def exec_or_IXl (s : State) : Out := opAluR .ix .or .l s

/-- `CP IXh` (R262). -/
def exec_cp_IXh (s : State) : Out := opAluR .ix .cp .h s

/-- `CP IXl` (R262). -/
def exec_cp_IXl (s : State) : Out := opAluR .ix .cp .l s

/-- `INC IYh` (R218). -/
def exec_inc_IYh (s : State) : Out := opStepR inc8 .iy .h s

/-- `DEC IYh` (R219). -/
def exec_dec_IYh (s : State) : Out := opStepR dec8 .iy .h s

/-- `INC IYl` (R218). -/
def exec_inc_IYl (s : State) : Out := opStepR inc8 .iy .l s

/-- `DEC IYl` (R219). -/
def exec_dec_IYl (s : State) : Out := opStepR dec8 .iy .l s

/-- `ADD A,IYh` (R255). -/
def exec_add_A_IYh (s : State) : Out := opAluR .iy .add .h s

/-- `ADD A,IYl` (R255). -/
def exec_add_A_IYl (s : State) : Out := opAluR .iy .add .l s

/-- `ADC A,IYh` (R256). -/
def exec_adc_A_IYh (s : State) : Out := opAluR .iy .adc .h s

/-- `ADC A,IYl` (R256). -/
def exec_adc_A_IYl (s : State) : Out := opAluR .iy .adc .l s

/-- `SUB IYh` (R257). -/
def exec_sub_IYh (s : State) : Out := opAluR .iy .sub .h s

/-- `SUB IYl` (R257). -/
def exec_sub_IYl (s : State) : Out := opAluR .iy .sub .l s

/-- `SBC A,IYh` (R258). -/
def exec_sbc_A_IYh (s : State) : Out := opAluR .iy .sbc .h s

/-- `SBC A,IYl` (R258). -/
def exec_sbc_A_IYl (s : State) : Out := opAluR .iy .sbc .l s

/-- `AND IYh` (R259). -/
def exec_and_IYh (s : State) : Out := opAluR .iy .and .h s

/-- `AND IYl` (R259). -/
def exec_and_IYl (s : State) : Out := opAluR .iy .and .l s

/-- `XOR IYh` (R260). -/
def exec_xor_IYh (s : State) : Out := opAluR .iy .xor .h s

/-- `XOR IYl` (R260). -/
def exec_xor_IYl (s : State) : Out := opAluR .iy .xor .l s

/-- `OR IYh` (R261). -/
def exec_or_IYh (s : State) : Out := opAluR .iy .or .h s

/-- `OR IYl` (R261). -/
def exec_or_IYl (s : State) : Out := opAluR .iy .or .l s

/-- `CP IYh` (R262). -/
def exec_cp_IYh (s : State) : Out := opAluR .iy .cp .h s

/-- `CP IYl` (R262). -/
def exec_cp_IYl (s : State) : Out := opAluR .iy .cp .l s

end Sys2Proof.Machine
end

