-- ==== Sys2Proof/Machine/BitOps.lean ====
section
/-! DEFINITION. BIT, RES and SET on registers, (HL), (IX+d) and (IY+d) (44_cb_prefix.md R338 to R340,
47_index_prefix.md R429). -/

namespace Sys2Proof.Machine

/-- `1 << b`. -/
def bitMask (b : Idx8) : Byte := 1 <<< b.toNat

/-- `v & ~(1 << b)` (R339). -/
def resBit (b : Idx8) (v : Byte) : Byte := v &&& ~~~(bitMask b)

/-- `v | (1 << b)` (R340). -/
def setBit (b : Idx8) (v : Byte) : Byte := v ||| bitMask b

/-- BIT b,r (R338): X and Y from the tested register. -/
def opBitR (b : Idx8) (n : Reg8) (s : State) : Out :=
  .next (State.addT 8
    (s.setF { bitTest b.toNat (reg8 .none n s) s.f with
      y := (reg8 .none n s).getLsbD 5, x := (reg8 .none n s).getLsbD 3 }))

/-- Y and X drawn, in that order (`F.Y <- any_bit(); F.X <- any_bit()`, R338; log 9). -/
def drawYX (f : Flags) (s : State) : State :=
  { s with f := { f with y := Config.anyBit s.draws, x := Config.anyBit (s.draws + 1) }, draws := s.draws + 2 }

/-- X and Y after BIT on memory: drawn for (HL) (R338, D21), bits 11 and 13 of the address for the indexed forms
(R429, D25). -/
def bitMemFlags (x : Ctx) (addr : Word) (f : Flags) (s : State) : State :=
  match x with
  | .none => drawYX f s
  | .ix => s.setF { f with y := addr.getLsbD 13, x := addr.getLsbD 11 }
  | .iy => s.setF { f with y := addr.getLsbD 13, x := addr.getLsbD 11 }

/-- BIT b,(HL) and BIT b,(IX+d) (R338, R429): the read only. Cost 12, indexed 20 or 12
(R540, log 13). -/
def opBitM (x : Ctx) (b : Idx8) (d : Byte) (s : State) : Out :=
  memRead (ea x d s) s fun v s1 =>
    .next (State.addT (cbMemT x s.params 12 20) (bitMemFlags x (ea x d s) (bitTest b.toNat v s1.f) s1))

/-- RES b,r and SET b,r, given the function (R339, R340): no flag. -/
def opPutBitR (g : Idx8 → Byte → Byte) (b : Idx8) (n : Reg8) (s : State) : Out :=
  .next (State.addT 8 (setReg8 .none n (g b (reg8 .none n s)) s))

/-- RES and SET on the memory operand: read, then write, whatever the bit was (R339, R340, R429). Cost 15,
indexed 23 or 15 (R540, log 13). -/
def opPutBitM (g : Idx8 → Byte → Byte) (x : Ctx) (b : Idx8) (d : Byte) (s : State) : Out :=
  memRead (ea x d s) s fun v s1 =>
    memWrite (ea x d s) (g b v) s1 fun s2 => .next (s2.addT (cbMemT x s.params 15 23))

/-- `BIT 0,(IX+d)` (R429). -/
def exec_bit_0_mIXd (d : Byte) (s : State) : Out := opBitM .ix .i0 d s

/-- `BIT 1,(IX+d)` (R429). -/
def exec_bit_1_mIXd (d : Byte) (s : State) : Out := opBitM .ix .i1 d s

/-- `BIT 2,(IX+d)` (R429). -/
def exec_bit_2_mIXd (d : Byte) (s : State) : Out := opBitM .ix .i2 d s

/-- `BIT 3,(IX+d)` (R429). -/
def exec_bit_3_mIXd (d : Byte) (s : State) : Out := opBitM .ix .i3 d s

/-- `BIT 4,(IX+d)` (R429). -/
def exec_bit_4_mIXd (d : Byte) (s : State) : Out := opBitM .ix .i4 d s

/-- `BIT 5,(IX+d)` (R429). -/
def exec_bit_5_mIXd (d : Byte) (s : State) : Out := opBitM .ix .i5 d s

/-- `BIT 6,(IX+d)` (R429). -/
def exec_bit_6_mIXd (d : Byte) (s : State) : Out := opBitM .ix .i6 d s

/-- `BIT 7,(IX+d)` (R429). -/
def exec_bit_7_mIXd (d : Byte) (s : State) : Out := opBitM .ix .i7 d s

/-- `RES 0,(IX+d)` (R429). -/
def exec_res_0_mIXd (d : Byte) (s : State) : Out := opPutBitM resBit .ix .i0 d s

/-- `RES 1,(IX+d)` (R429). -/
def exec_res_1_mIXd (d : Byte) (s : State) : Out := opPutBitM resBit .ix .i1 d s

/-- `RES 2,(IX+d)` (R429). -/
def exec_res_2_mIXd (d : Byte) (s : State) : Out := opPutBitM resBit .ix .i2 d s

/-- `RES 3,(IX+d)` (R429). -/
def exec_res_3_mIXd (d : Byte) (s : State) : Out := opPutBitM resBit .ix .i3 d s

/-- `RES 4,(IX+d)` (R429). -/
def exec_res_4_mIXd (d : Byte) (s : State) : Out := opPutBitM resBit .ix .i4 d s

/-- `RES 5,(IX+d)` (R429). -/
def exec_res_5_mIXd (d : Byte) (s : State) : Out := opPutBitM resBit .ix .i5 d s

/-- `RES 6,(IX+d)` (R429). -/
def exec_res_6_mIXd (d : Byte) (s : State) : Out := opPutBitM resBit .ix .i6 d s

/-- `RES 7,(IX+d)` (R429). -/
def exec_res_7_mIXd (d : Byte) (s : State) : Out := opPutBitM resBit .ix .i7 d s

/-- `SET 0,(IX+d)` (R429). -/
def exec_set_0_mIXd (d : Byte) (s : State) : Out := opPutBitM setBit .ix .i0 d s

/-- `SET 1,(IX+d)` (R429). -/
def exec_set_1_mIXd (d : Byte) (s : State) : Out := opPutBitM setBit .ix .i1 d s

/-- `SET 2,(IX+d)` (R429). -/
def exec_set_2_mIXd (d : Byte) (s : State) : Out := opPutBitM setBit .ix .i2 d s

/-- `SET 3,(IX+d)` (R429). -/
def exec_set_3_mIXd (d : Byte) (s : State) : Out := opPutBitM setBit .ix .i3 d s

/-- `SET 4,(IX+d)` (R429). -/
def exec_set_4_mIXd (d : Byte) (s : State) : Out := opPutBitM setBit .ix .i4 d s

/-- `SET 5,(IX+d)` (R429). -/
def exec_set_5_mIXd (d : Byte) (s : State) : Out := opPutBitM setBit .ix .i5 d s

/-- `SET 6,(IX+d)` (R429). -/
def exec_set_6_mIXd (d : Byte) (s : State) : Out := opPutBitM setBit .ix .i6 d s

/-- `SET 7,(IX+d)` (R429). -/
def exec_set_7_mIXd (d : Byte) (s : State) : Out := opPutBitM setBit .ix .i7 d s

/-- `BIT 0,(IY+d)` (R429). -/
def exec_bit_0_mIYd (d : Byte) (s : State) : Out := opBitM .iy .i0 d s

/-- `BIT 1,(IY+d)` (R429). -/
def exec_bit_1_mIYd (d : Byte) (s : State) : Out := opBitM .iy .i1 d s

/-- `BIT 2,(IY+d)` (R429). -/
def exec_bit_2_mIYd (d : Byte) (s : State) : Out := opBitM .iy .i2 d s

/-- `BIT 3,(IY+d)` (R429). -/
def exec_bit_3_mIYd (d : Byte) (s : State) : Out := opBitM .iy .i3 d s

/-- `BIT 4,(IY+d)` (R429). -/
def exec_bit_4_mIYd (d : Byte) (s : State) : Out := opBitM .iy .i4 d s

/-- `BIT 5,(IY+d)` (R429). -/
def exec_bit_5_mIYd (d : Byte) (s : State) : Out := opBitM .iy .i5 d s

/-- `BIT 6,(IY+d)` (R429). -/
def exec_bit_6_mIYd (d : Byte) (s : State) : Out := opBitM .iy .i6 d s

/-- `BIT 7,(IY+d)` (R429). -/
def exec_bit_7_mIYd (d : Byte) (s : State) : Out := opBitM .iy .i7 d s

/-- `RES 0,(IY+d)` (R429). -/
def exec_res_0_mIYd (d : Byte) (s : State) : Out := opPutBitM resBit .iy .i0 d s

/-- `RES 1,(IY+d)` (R429). -/
def exec_res_1_mIYd (d : Byte) (s : State) : Out := opPutBitM resBit .iy .i1 d s

/-- `RES 2,(IY+d)` (R429). -/
def exec_res_2_mIYd (d : Byte) (s : State) : Out := opPutBitM resBit .iy .i2 d s

/-- `RES 3,(IY+d)` (R429). -/
def exec_res_3_mIYd (d : Byte) (s : State) : Out := opPutBitM resBit .iy .i3 d s

/-- `RES 4,(IY+d)` (R429). -/
def exec_res_4_mIYd (d : Byte) (s : State) : Out := opPutBitM resBit .iy .i4 d s

/-- `RES 5,(IY+d)` (R429). -/
def exec_res_5_mIYd (d : Byte) (s : State) : Out := opPutBitM resBit .iy .i5 d s

/-- `RES 6,(IY+d)` (R429). -/
def exec_res_6_mIYd (d : Byte) (s : State) : Out := opPutBitM resBit .iy .i6 d s

/-- `RES 7,(IY+d)` (R429). -/
def exec_res_7_mIYd (d : Byte) (s : State) : Out := opPutBitM resBit .iy .i7 d s

/-- `SET 0,(IY+d)` (R429). -/
def exec_set_0_mIYd (d : Byte) (s : State) : Out := opPutBitM setBit .iy .i0 d s

/-- `SET 1,(IY+d)` (R429). -/
def exec_set_1_mIYd (d : Byte) (s : State) : Out := opPutBitM setBit .iy .i1 d s

/-- `SET 2,(IY+d)` (R429). -/
def exec_set_2_mIYd (d : Byte) (s : State) : Out := opPutBitM setBit .iy .i2 d s

/-- `SET 3,(IY+d)` (R429). -/
def exec_set_3_mIYd (d : Byte) (s : State) : Out := opPutBitM setBit .iy .i3 d s

/-- `SET 4,(IY+d)` (R429). -/
def exec_set_4_mIYd (d : Byte) (s : State) : Out := opPutBitM setBit .iy .i4 d s

/-- `SET 5,(IY+d)` (R429). -/
def exec_set_5_mIYd (d : Byte) (s : State) : Out := opPutBitM setBit .iy .i5 d s

/-- `SET 6,(IY+d)` (R429). -/
def exec_set_6_mIYd (d : Byte) (s : State) : Out := opPutBitM setBit .iy .i6 d s

/-- `SET 7,(IY+d)` (R429). -/
def exec_set_7_mIYd (d : Byte) (s : State) : Out := opPutBitM setBit .iy .i7 d s

/-- `BIT 0,B` (R338). -/
def exec_bit_0_B (s : State) : Out := opBitR .i0 .b s

/-- `BIT 0,C` (R338). -/
def exec_bit_0_C (s : State) : Out := opBitR .i0 .c s

/-- `BIT 0,D` (R338). -/
def exec_bit_0_D (s : State) : Out := opBitR .i0 .d s

/-- `BIT 0,E` (R338). -/
def exec_bit_0_E (s : State) : Out := opBitR .i0 .e s

/-- `BIT 0,H` (R338). -/
def exec_bit_0_H (s : State) : Out := opBitR .i0 .h s

/-- `BIT 0,L` (R338). -/
def exec_bit_0_L (s : State) : Out := opBitR .i0 .l s

/-- `BIT 0,(HL)` (R338). -/
def exec_bit_0_mHL (s : State) : Out := opBitM .none .i0 0 s

/-- `BIT 0,A` (R338). -/
def exec_bit_0_A (s : State) : Out := opBitR .i0 .a s

/-- `BIT 1,B` (R338). -/
def exec_bit_1_B (s : State) : Out := opBitR .i1 .b s

/-- `BIT 1,C` (R338). -/
def exec_bit_1_C (s : State) : Out := opBitR .i1 .c s

/-- `BIT 1,D` (R338). -/
def exec_bit_1_D (s : State) : Out := opBitR .i1 .d s

/-- `BIT 1,E` (R338). -/
def exec_bit_1_E (s : State) : Out := opBitR .i1 .e s

/-- `BIT 1,H` (R338). -/
def exec_bit_1_H (s : State) : Out := opBitR .i1 .h s

/-- `BIT 1,L` (R338). -/
def exec_bit_1_L (s : State) : Out := opBitR .i1 .l s

/-- `BIT 1,(HL)` (R338). -/
def exec_bit_1_mHL (s : State) : Out := opBitM .none .i1 0 s

/-- `BIT 1,A` (R338). -/
def exec_bit_1_A (s : State) : Out := opBitR .i1 .a s

/-- `BIT 2,B` (R338). -/
def exec_bit_2_B (s : State) : Out := opBitR .i2 .b s

/-- `BIT 2,C` (R338). -/
def exec_bit_2_C (s : State) : Out := opBitR .i2 .c s

/-- `BIT 2,D` (R338). -/
def exec_bit_2_D (s : State) : Out := opBitR .i2 .d s

/-- `BIT 2,E` (R338). -/
def exec_bit_2_E (s : State) : Out := opBitR .i2 .e s

/-- `BIT 2,H` (R338). -/
def exec_bit_2_H (s : State) : Out := opBitR .i2 .h s

/-- `BIT 2,L` (R338). -/
def exec_bit_2_L (s : State) : Out := opBitR .i2 .l s

/-- `BIT 2,(HL)` (R338). -/
def exec_bit_2_mHL (s : State) : Out := opBitM .none .i2 0 s

/-- `BIT 2,A` (R338). -/
def exec_bit_2_A (s : State) : Out := opBitR .i2 .a s

/-- `BIT 3,B` (R338). -/
def exec_bit_3_B (s : State) : Out := opBitR .i3 .b s

/-- `BIT 3,C` (R338). -/
def exec_bit_3_C (s : State) : Out := opBitR .i3 .c s

/-- `BIT 3,D` (R338). -/
def exec_bit_3_D (s : State) : Out := opBitR .i3 .d s

/-- `BIT 3,E` (R338). -/
def exec_bit_3_E (s : State) : Out := opBitR .i3 .e s

/-- `BIT 3,H` (R338). -/
def exec_bit_3_H (s : State) : Out := opBitR .i3 .h s

/-- `BIT 3,L` (R338). -/
def exec_bit_3_L (s : State) : Out := opBitR .i3 .l s

/-- `BIT 3,(HL)` (R338). -/
def exec_bit_3_mHL (s : State) : Out := opBitM .none .i3 0 s

/-- `BIT 3,A` (R338). -/
def exec_bit_3_A (s : State) : Out := opBitR .i3 .a s

/-- `BIT 4,B` (R338). -/
def exec_bit_4_B (s : State) : Out := opBitR .i4 .b s

/-- `BIT 4,C` (R338). -/
def exec_bit_4_C (s : State) : Out := opBitR .i4 .c s

/-- `BIT 4,D` (R338). -/
def exec_bit_4_D (s : State) : Out := opBitR .i4 .d s

/-- `BIT 4,E` (R338). -/
def exec_bit_4_E (s : State) : Out := opBitR .i4 .e s

/-- `BIT 4,H` (R338). -/
def exec_bit_4_H (s : State) : Out := opBitR .i4 .h s

/-- `BIT 4,L` (R338). -/
def exec_bit_4_L (s : State) : Out := opBitR .i4 .l s

/-- `BIT 4,(HL)` (R338). -/
def exec_bit_4_mHL (s : State) : Out := opBitM .none .i4 0 s

/-- `BIT 4,A` (R338). -/
def exec_bit_4_A (s : State) : Out := opBitR .i4 .a s

/-- `BIT 5,B` (R338). -/
def exec_bit_5_B (s : State) : Out := opBitR .i5 .b s

/-- `BIT 5,C` (R338). -/
def exec_bit_5_C (s : State) : Out := opBitR .i5 .c s

/-- `BIT 5,D` (R338). -/
def exec_bit_5_D (s : State) : Out := opBitR .i5 .d s

/-- `BIT 5,E` (R338). -/
def exec_bit_5_E (s : State) : Out := opBitR .i5 .e s

/-- `BIT 5,H` (R338). -/
def exec_bit_5_H (s : State) : Out := opBitR .i5 .h s

/-- `BIT 5,L` (R338). -/
def exec_bit_5_L (s : State) : Out := opBitR .i5 .l s

/-- `BIT 5,(HL)` (R338). -/
def exec_bit_5_mHL (s : State) : Out := opBitM .none .i5 0 s

/-- `BIT 5,A` (R338). -/
def exec_bit_5_A (s : State) : Out := opBitR .i5 .a s

/-- `BIT 6,B` (R338). -/
def exec_bit_6_B (s : State) : Out := opBitR .i6 .b s

/-- `BIT 6,C` (R338). -/
def exec_bit_6_C (s : State) : Out := opBitR .i6 .c s

/-- `BIT 6,D` (R338). -/
def exec_bit_6_D (s : State) : Out := opBitR .i6 .d s

/-- `BIT 6,E` (R338). -/
def exec_bit_6_E (s : State) : Out := opBitR .i6 .e s

/-- `BIT 6,H` (R338). -/
def exec_bit_6_H (s : State) : Out := opBitR .i6 .h s

/-- `BIT 6,L` (R338). -/
def exec_bit_6_L (s : State) : Out := opBitR .i6 .l s

/-- `BIT 6,(HL)` (R338). -/
def exec_bit_6_mHL (s : State) : Out := opBitM .none .i6 0 s

/-- `BIT 6,A` (R338). -/
def exec_bit_6_A (s : State) : Out := opBitR .i6 .a s

/-- `BIT 7,B` (R338). -/
def exec_bit_7_B (s : State) : Out := opBitR .i7 .b s

/-- `BIT 7,C` (R338). -/
def exec_bit_7_C (s : State) : Out := opBitR .i7 .c s

/-- `BIT 7,D` (R338). -/
def exec_bit_7_D (s : State) : Out := opBitR .i7 .d s

/-- `BIT 7,E` (R338). -/
def exec_bit_7_E (s : State) : Out := opBitR .i7 .e s

/-- `BIT 7,H` (R338). -/
def exec_bit_7_H (s : State) : Out := opBitR .i7 .h s

/-- `BIT 7,L` (R338). -/
def exec_bit_7_L (s : State) : Out := opBitR .i7 .l s

/-- `BIT 7,(HL)` (R338). -/
def exec_bit_7_mHL (s : State) : Out := opBitM .none .i7 0 s

/-- `BIT 7,A` (R338). -/
def exec_bit_7_A (s : State) : Out := opBitR .i7 .a s

/-- `RES 0,B` (R339). -/
def exec_res_0_B (s : State) : Out := opPutBitR resBit .i0 .b s

/-- `RES 0,C` (R339). -/
def exec_res_0_C (s : State) : Out := opPutBitR resBit .i0 .c s

/-- `RES 0,D` (R339). -/
def exec_res_0_D (s : State) : Out := opPutBitR resBit .i0 .d s

/-- `RES 0,E` (R339). -/
def exec_res_0_E (s : State) : Out := opPutBitR resBit .i0 .e s

/-- `RES 0,H` (R339). -/
def exec_res_0_H (s : State) : Out := opPutBitR resBit .i0 .h s

/-- `RES 0,L` (R339). -/
def exec_res_0_L (s : State) : Out := opPutBitR resBit .i0 .l s

/-- `RES 0,(HL)` (R339). -/
def exec_res_0_mHL (s : State) : Out := opPutBitM resBit .none .i0 0 s

/-- `RES 0,A` (R339). -/
def exec_res_0_A (s : State) : Out := opPutBitR resBit .i0 .a s

/-- `RES 1,B` (R339). -/
def exec_res_1_B (s : State) : Out := opPutBitR resBit .i1 .b s

/-- `RES 1,C` (R339). -/
def exec_res_1_C (s : State) : Out := opPutBitR resBit .i1 .c s

/-- `RES 1,D` (R339). -/
def exec_res_1_D (s : State) : Out := opPutBitR resBit .i1 .d s

/-- `RES 1,E` (R339). -/
def exec_res_1_E (s : State) : Out := opPutBitR resBit .i1 .e s

/-- `RES 1,H` (R339). -/
def exec_res_1_H (s : State) : Out := opPutBitR resBit .i1 .h s

/-- `RES 1,L` (R339). -/
def exec_res_1_L (s : State) : Out := opPutBitR resBit .i1 .l s

/-- `RES 1,(HL)` (R339). -/
def exec_res_1_mHL (s : State) : Out := opPutBitM resBit .none .i1 0 s

/-- `RES 1,A` (R339). -/
def exec_res_1_A (s : State) : Out := opPutBitR resBit .i1 .a s

/-- `RES 2,B` (R339). -/
def exec_res_2_B (s : State) : Out := opPutBitR resBit .i2 .b s

/-- `RES 2,C` (R339). -/
def exec_res_2_C (s : State) : Out := opPutBitR resBit .i2 .c s

/-- `RES 2,D` (R339). -/
def exec_res_2_D (s : State) : Out := opPutBitR resBit .i2 .d s

/-- `RES 2,E` (R339). -/
def exec_res_2_E (s : State) : Out := opPutBitR resBit .i2 .e s

/-- `RES 2,H` (R339). -/
def exec_res_2_H (s : State) : Out := opPutBitR resBit .i2 .h s

/-- `RES 2,L` (R339). -/
def exec_res_2_L (s : State) : Out := opPutBitR resBit .i2 .l s

/-- `RES 2,(HL)` (R339). -/
def exec_res_2_mHL (s : State) : Out := opPutBitM resBit .none .i2 0 s

/-- `RES 2,A` (R339). -/
def exec_res_2_A (s : State) : Out := opPutBitR resBit .i2 .a s

/-- `RES 3,B` (R339). -/
def exec_res_3_B (s : State) : Out := opPutBitR resBit .i3 .b s

/-- `RES 3,C` (R339). -/
def exec_res_3_C (s : State) : Out := opPutBitR resBit .i3 .c s

/-- `RES 3,D` (R339). -/
def exec_res_3_D (s : State) : Out := opPutBitR resBit .i3 .d s

/-- `RES 3,E` (R339). -/
def exec_res_3_E (s : State) : Out := opPutBitR resBit .i3 .e s

/-- `RES 3,H` (R339). -/
def exec_res_3_H (s : State) : Out := opPutBitR resBit .i3 .h s

/-- `RES 3,L` (R339). -/
def exec_res_3_L (s : State) : Out := opPutBitR resBit .i3 .l s

/-- `RES 3,(HL)` (R339). -/
def exec_res_3_mHL (s : State) : Out := opPutBitM resBit .none .i3 0 s

/-- `RES 3,A` (R339). -/
def exec_res_3_A (s : State) : Out := opPutBitR resBit .i3 .a s

/-- `RES 4,B` (R339). -/
def exec_res_4_B (s : State) : Out := opPutBitR resBit .i4 .b s

/-- `RES 4,C` (R339). -/
def exec_res_4_C (s : State) : Out := opPutBitR resBit .i4 .c s

/-- `RES 4,D` (R339). -/
def exec_res_4_D (s : State) : Out := opPutBitR resBit .i4 .d s

/-- `RES 4,E` (R339). -/
def exec_res_4_E (s : State) : Out := opPutBitR resBit .i4 .e s

/-- `RES 4,H` (R339). -/
def exec_res_4_H (s : State) : Out := opPutBitR resBit .i4 .h s

/-- `RES 4,L` (R339). -/
def exec_res_4_L (s : State) : Out := opPutBitR resBit .i4 .l s

/-- `RES 4,(HL)` (R339). -/
def exec_res_4_mHL (s : State) : Out := opPutBitM resBit .none .i4 0 s

/-- `RES 4,A` (R339). -/
def exec_res_4_A (s : State) : Out := opPutBitR resBit .i4 .a s

/-- `RES 5,B` (R339). -/
def exec_res_5_B (s : State) : Out := opPutBitR resBit .i5 .b s

/-- `RES 5,C` (R339). -/
def exec_res_5_C (s : State) : Out := opPutBitR resBit .i5 .c s

/-- `RES 5,D` (R339). -/
def exec_res_5_D (s : State) : Out := opPutBitR resBit .i5 .d s

/-- `RES 5,E` (R339). -/
def exec_res_5_E (s : State) : Out := opPutBitR resBit .i5 .e s

/-- `RES 5,H` (R339). -/
def exec_res_5_H (s : State) : Out := opPutBitR resBit .i5 .h s

/-- `RES 5,L` (R339). -/
def exec_res_5_L (s : State) : Out := opPutBitR resBit .i5 .l s

/-- `RES 5,(HL)` (R339). -/
def exec_res_5_mHL (s : State) : Out := opPutBitM resBit .none .i5 0 s

/-- `RES 5,A` (R339). -/
def exec_res_5_A (s : State) : Out := opPutBitR resBit .i5 .a s

/-- `RES 6,B` (R339). -/
def exec_res_6_B (s : State) : Out := opPutBitR resBit .i6 .b s

/-- `RES 6,C` (R339). -/
def exec_res_6_C (s : State) : Out := opPutBitR resBit .i6 .c s

/-- `RES 6,D` (R339). -/
def exec_res_6_D (s : State) : Out := opPutBitR resBit .i6 .d s

/-- `RES 6,E` (R339). -/
def exec_res_6_E (s : State) : Out := opPutBitR resBit .i6 .e s

/-- `RES 6,H` (R339). -/
def exec_res_6_H (s : State) : Out := opPutBitR resBit .i6 .h s

/-- `RES 6,L` (R339). -/
def exec_res_6_L (s : State) : Out := opPutBitR resBit .i6 .l s

/-- `RES 6,(HL)` (R339). -/
def exec_res_6_mHL (s : State) : Out := opPutBitM resBit .none .i6 0 s

/-- `RES 6,A` (R339). -/
def exec_res_6_A (s : State) : Out := opPutBitR resBit .i6 .a s

/-- `RES 7,B` (R339). -/
def exec_res_7_B (s : State) : Out := opPutBitR resBit .i7 .b s

/-- `RES 7,C` (R339). -/
def exec_res_7_C (s : State) : Out := opPutBitR resBit .i7 .c s

/-- `RES 7,D` (R339). -/
def exec_res_7_D (s : State) : Out := opPutBitR resBit .i7 .d s

/-- `RES 7,E` (R339). -/
def exec_res_7_E (s : State) : Out := opPutBitR resBit .i7 .e s

/-- `RES 7,H` (R339). -/
def exec_res_7_H (s : State) : Out := opPutBitR resBit .i7 .h s

/-- `RES 7,L` (R339). -/
def exec_res_7_L (s : State) : Out := opPutBitR resBit .i7 .l s

/-- `RES 7,(HL)` (R339). -/
def exec_res_7_mHL (s : State) : Out := opPutBitM resBit .none .i7 0 s

/-- `RES 7,A` (R339). -/
def exec_res_7_A (s : State) : Out := opPutBitR resBit .i7 .a s

/-- `SET 0,B` (R340). -/
def exec_set_0_B (s : State) : Out := opPutBitR setBit .i0 .b s

/-- `SET 0,C` (R340). -/
def exec_set_0_C (s : State) : Out := opPutBitR setBit .i0 .c s

/-- `SET 0,D` (R340). -/
def exec_set_0_D (s : State) : Out := opPutBitR setBit .i0 .d s

/-- `SET 0,E` (R340). -/
def exec_set_0_E (s : State) : Out := opPutBitR setBit .i0 .e s

/-- `SET 0,H` (R340). -/
def exec_set_0_H (s : State) : Out := opPutBitR setBit .i0 .h s

/-- `SET 0,L` (R340). -/
def exec_set_0_L (s : State) : Out := opPutBitR setBit .i0 .l s

/-- `SET 0,(HL)` (R340). -/
def exec_set_0_mHL (s : State) : Out := opPutBitM setBit .none .i0 0 s

/-- `SET 0,A` (R340). -/
def exec_set_0_A (s : State) : Out := opPutBitR setBit .i0 .a s

/-- `SET 1,B` (R340). -/
def exec_set_1_B (s : State) : Out := opPutBitR setBit .i1 .b s

/-- `SET 1,C` (R340). -/
def exec_set_1_C (s : State) : Out := opPutBitR setBit .i1 .c s

/-- `SET 1,D` (R340). -/
def exec_set_1_D (s : State) : Out := opPutBitR setBit .i1 .d s

/-- `SET 1,E` (R340). -/
def exec_set_1_E (s : State) : Out := opPutBitR setBit .i1 .e s

/-- `SET 1,H` (R340). -/
def exec_set_1_H (s : State) : Out := opPutBitR setBit .i1 .h s

/-- `SET 1,L` (R340). -/
def exec_set_1_L (s : State) : Out := opPutBitR setBit .i1 .l s

/-- `SET 1,(HL)` (R340). -/
def exec_set_1_mHL (s : State) : Out := opPutBitM setBit .none .i1 0 s

/-- `SET 1,A` (R340). -/
def exec_set_1_A (s : State) : Out := opPutBitR setBit .i1 .a s

/-- `SET 2,B` (R340). -/
def exec_set_2_B (s : State) : Out := opPutBitR setBit .i2 .b s

/-- `SET 2,C` (R340). -/
def exec_set_2_C (s : State) : Out := opPutBitR setBit .i2 .c s

/-- `SET 2,D` (R340). -/
def exec_set_2_D (s : State) : Out := opPutBitR setBit .i2 .d s

/-- `SET 2,E` (R340). -/
def exec_set_2_E (s : State) : Out := opPutBitR setBit .i2 .e s

/-- `SET 2,H` (R340). -/
def exec_set_2_H (s : State) : Out := opPutBitR setBit .i2 .h s

/-- `SET 2,L` (R340). -/
def exec_set_2_L (s : State) : Out := opPutBitR setBit .i2 .l s

/-- `SET 2,(HL)` (R340). -/
def exec_set_2_mHL (s : State) : Out := opPutBitM setBit .none .i2 0 s

/-- `SET 2,A` (R340). -/
def exec_set_2_A (s : State) : Out := opPutBitR setBit .i2 .a s

/-- `SET 3,B` (R340). -/
def exec_set_3_B (s : State) : Out := opPutBitR setBit .i3 .b s

/-- `SET 3,C` (R340). -/
def exec_set_3_C (s : State) : Out := opPutBitR setBit .i3 .c s

/-- `SET 3,D` (R340). -/
def exec_set_3_D (s : State) : Out := opPutBitR setBit .i3 .d s

/-- `SET 3,E` (R340). -/
def exec_set_3_E (s : State) : Out := opPutBitR setBit .i3 .e s

/-- `SET 3,H` (R340). -/
def exec_set_3_H (s : State) : Out := opPutBitR setBit .i3 .h s

/-- `SET 3,L` (R340). -/
def exec_set_3_L (s : State) : Out := opPutBitR setBit .i3 .l s

/-- `SET 3,(HL)` (R340). -/
def exec_set_3_mHL (s : State) : Out := opPutBitM setBit .none .i3 0 s

/-- `SET 3,A` (R340). -/
def exec_set_3_A (s : State) : Out := opPutBitR setBit .i3 .a s

/-- `SET 4,B` (R340). -/
def exec_set_4_B (s : State) : Out := opPutBitR setBit .i4 .b s

/-- `SET 4,C` (R340). -/
def exec_set_4_C (s : State) : Out := opPutBitR setBit .i4 .c s

/-- `SET 4,D` (R340). -/
def exec_set_4_D (s : State) : Out := opPutBitR setBit .i4 .d s

/-- `SET 4,E` (R340). -/
def exec_set_4_E (s : State) : Out := opPutBitR setBit .i4 .e s

/-- `SET 4,H` (R340). -/
def exec_set_4_H (s : State) : Out := opPutBitR setBit .i4 .h s

/-- `SET 4,L` (R340). -/
def exec_set_4_L (s : State) : Out := opPutBitR setBit .i4 .l s

/-- `SET 4,(HL)` (R340). -/
def exec_set_4_mHL (s : State) : Out := opPutBitM setBit .none .i4 0 s

/-- `SET 4,A` (R340). -/
def exec_set_4_A (s : State) : Out := opPutBitR setBit .i4 .a s

/-- `SET 5,B` (R340). -/
def exec_set_5_B (s : State) : Out := opPutBitR setBit .i5 .b s

/-- `SET 5,C` (R340). -/
def exec_set_5_C (s : State) : Out := opPutBitR setBit .i5 .c s

/-- `SET 5,D` (R340). -/
def exec_set_5_D (s : State) : Out := opPutBitR setBit .i5 .d s

/-- `SET 5,E` (R340). -/
def exec_set_5_E (s : State) : Out := opPutBitR setBit .i5 .e s

/-- `SET 5,H` (R340). -/
def exec_set_5_H (s : State) : Out := opPutBitR setBit .i5 .h s

/-- `SET 5,L` (R340). -/
def exec_set_5_L (s : State) : Out := opPutBitR setBit .i5 .l s

/-- `SET 5,(HL)` (R340). -/
def exec_set_5_mHL (s : State) : Out := opPutBitM setBit .none .i5 0 s

/-- `SET 5,A` (R340). -/
def exec_set_5_A (s : State) : Out := opPutBitR setBit .i5 .a s

/-- `SET 6,B` (R340). -/
def exec_set_6_B (s : State) : Out := opPutBitR setBit .i6 .b s

/-- `SET 6,C` (R340). -/
def exec_set_6_C (s : State) : Out := opPutBitR setBit .i6 .c s

/-- `SET 6,D` (R340). -/
def exec_set_6_D (s : State) : Out := opPutBitR setBit .i6 .d s

/-- `SET 6,E` (R340). -/
def exec_set_6_E (s : State) : Out := opPutBitR setBit .i6 .e s

/-- `SET 6,H` (R340). -/
def exec_set_6_H (s : State) : Out := opPutBitR setBit .i6 .h s

/-- `SET 6,L` (R340). -/
def exec_set_6_L (s : State) : Out := opPutBitR setBit .i6 .l s

/-- `SET 6,(HL)` (R340). -/
def exec_set_6_mHL (s : State) : Out := opPutBitM setBit .none .i6 0 s

/-- `SET 6,A` (R340). -/
def exec_set_6_A (s : State) : Out := opPutBitR setBit .i6 .a s

/-- `SET 7,B` (R340). -/
def exec_set_7_B (s : State) : Out := opPutBitR setBit .i7 .b s

/-- `SET 7,C` (R340). -/
def exec_set_7_C (s : State) : Out := opPutBitR setBit .i7 .c s

/-- `SET 7,D` (R340). -/
def exec_set_7_D (s : State) : Out := opPutBitR setBit .i7 .d s

/-- `SET 7,E` (R340). -/
def exec_set_7_E (s : State) : Out := opPutBitR setBit .i7 .e s

/-- `SET 7,H` (R340). -/
def exec_set_7_H (s : State) : Out := opPutBitR setBit .i7 .h s

/-- `SET 7,L` (R340). -/
def exec_set_7_L (s : State) : Out := opPutBitR setBit .i7 .l s

/-- `SET 7,(HL)` (R340). -/
def exec_set_7_mHL (s : State) : Out := opPutBitM setBit .none .i7 0 s

/-- `SET 7,A` (R340). -/
def exec_set_7_A (s : State) : Out := opPutBitR setBit .i7 .a s

end Sys2Proof.Machine
end

