-- ==== Sys2Proof/Machine/Block.lean ====
section
/-! DEFINITION. The block instructions (46_block.md R390 to R407). One iteration is one step. -/

namespace Sys2Proof.Machine

/-- `dir` (R390): HL and DE step by +1 or -1 modulo 65536. -/
def stepWord (up : Bool) (w : Word) : Word := if up then w + 1 else w - 1

/-- Repeat and rewind (R391): back to the ED byte for 21 T-states, or on for 16. -/
def repeatEnd (again : Bool) (s : State) : Out :=
  if again then .next (State.addT 21 { s with pc := s.pc - 2 }) else .next (s.addT 16)

/-- LDI, LDD, LDIR, LDDR (R392 to R395). -/
def opCopy (up rep : Bool) (s : State) : Out :=
  memRead s.hl s fun v s => memWrite s.de v s fun s =>
    repeatEnd (rep && decide (s.bc - 1 ≠ 0))
      (((s.setHL (stepWord up s.hl)).setDE (stepWord up s.de)).setBC (s.bc - 1)
        |>.setF (copyFlags v s.a (decide (s.bc - 1 ≠ 0)) s.f))

/-- CPI, CPD, CPIR, CPDR (R396 to R399): the repeating forms stop on a match too (C3, D20). -/
def opCompare (up rep : Bool) (s : State) : Out :=
  memRead s.hl s fun v s =>
    repeatEnd (rep && decide (s.bc - 1 ≠ 0) && decide (s.a - v ≠ 0))
      ((s.setHL (stepWord up s.hl)).setBC (s.bc - 1)
        |>.setF (compareFlags s.a v (decide (s.bc - 1 ≠ 0)) s.f))

/-- The end of a block I/O iteration (R400, R404): HL stepped, B counted down, Z and N set, and S, H, PV, C, X, Y
drawn in that order (D21, log 9). -/
def blockIoStep (up : Bool) (s : State) : State :=
  { s.setHL (stepWord up s.hl) with
    b := s.b - 1
    f := { s := Config.anyBit s.draws
           z := decide (s.b - 1 = 0)
           y := Config.anyBit (s.draws + 5)
           h := Config.anyBit (s.draws + 1)
           x := Config.anyBit (s.draws + 4)
           pv := Config.anyBit (s.draws + 2)
           n := true
           c := Config.anyBit (s.draws + 3) }
    draws := s.draws + 6 }

/-- INI, IND, INIR, INDR (R400 to R403): the port is B:C with B before the decrement. -/
def opInput (up rep : Bool) (s : State) : Out :=
  ioRead s.bc s fun v s => memWrite s.hl v s fun s =>
    repeatEnd (rep && decide (s.b - 1 ≠ 0)) (blockIoStep up s)

/-- OUTI, OUTD, OTIR, OTDR (R404 to R407): the port is B:C with B before the decrement (C8, D24). -/
def opOutput (up rep : Bool) (s : State) : Out :=
  memRead s.hl s fun v s => ioWrite s.bc v s fun s =>
    repeatEnd (rep && decide (s.b - 1 ≠ 0)) (blockIoStep up s)

/-- `LDI` (R392). -/
def exec_ldi (s : State) : Out := opCopy true false s

/-- `CPI` (R396). -/
def exec_cpi (s : State) : Out := opCompare true false s

/-- `INI` (R400). -/
def exec_ini (s : State) : Out := opInput true false s

/-- `OUTI` (R404). -/
def exec_outi (s : State) : Out := opOutput true false s

/-- `LDD` (R393). -/
def exec_ldd (s : State) : Out := opCopy false false s

/-- `CPD` (R397). -/
def exec_cpd (s : State) : Out := opCompare false false s

/-- `IND` (R401). -/
def exec_ind (s : State) : Out := opInput false false s

/-- `OUTD` (R405). -/
def exec_outd (s : State) : Out := opOutput false false s

/-- `LDIR` (R394). -/
def exec_ldir (s : State) : Out := opCopy true true s

/-- `CPIR` (R398). -/
def exec_cpir (s : State) : Out := opCompare true true s

/-- `INIR` (R402). -/
def exec_inir (s : State) : Out := opInput true true s

/-- `OTIR` (R406). -/
def exec_otir (s : State) : Out := opOutput true true s

/-- `LDDR` (R395). -/
def exec_lddr (s : State) : Out := opCopy false true s

/-- `CPDR` (R399). -/
def exec_cpdr (s : State) : Out := opCompare false true s

/-- `INDR` (R403). -/
def exec_indr (s : State) : Out := opInput false true s

/-- `OTDR` (R407). -/
def exec_otdr (s : State) : Out := opOutput false true s

end Sys2Proof.Machine
end

