-- ==== Sys2Proof/Machine/Control.lean ====
section
/-! DEFINITION. NOP, HALT, DI, EI, IM and the moves between A and I or R (41_base_x0.md R200, 42_base_x1_x2.md R253,
43_base_x3.md R292, R293, 45_ed_prefix.md R363 to R367). -/

namespace Sys2Proof.Machine

/-- NOP (R200). -/
def opNop (s : State) : Out := .next (s.addT 4)

/-- HALT (R253): `halted <- 1`, PC past the HALT byte. -/
def opHalt (s : State) : Out := .next (State.addT 4 { s with halted := true })

/-- DI (R292). -/
def opDi (s : State) : Out :=
  .next (State.addT 4 { s with iff1 := false, iff2 := false, eiDiDelay := true })

/-- EI (R293). -/
def opEi (s : State) : Out :=
  .next (State.addT 4 { s with iff1 := true, iff2 := true, eiDiDelay := true })

/-- IM 0, IM 1, IM 2 (R363): an unsupported mode is no fault here (R482). -/
def opIm (m : IMode) (s : State) : Out := .next (State.addT 8 { s with im := m })

/-- LD I,A (R364). -/
def opLdIA (s : State) : Out := .next (State.addT 9 { s with i := s.a })

/-- LD R,A (R365): all eight bits, after the two fetch counts. -/
def opLdRA (s : State) : Out := .next (State.addT 9 { s with r := s.a })

/-- LD A,I and LD A,R (R366, R367): PV reports IFF2, C is kept. -/
def opLdASpecial (v : Byte) (s : State) : Out :=
  .next (State.addT 9 (s.setAF (v, loadFlags v s.iff2 s.f)))

/-- `NOP` (R200). -/
def exec_nop (s : State) : Out := opNop s

/-- `HALT` (R253). -/
def exec_halt (s : State) : Out := opHalt s

/-- `DI` (R292). -/
def exec_di (s : State) : Out := opDi s

/-- `EI` (R293). -/
def exec_ei (s : State) : Out := opEi s

/-- `IM 0` (R363). -/
def exec_im_0 (s : State) : Out := opIm .im0 s

/-- `LD I,A` (R364). -/
def exec_ld_I_A (s : State) : Out := opLdIA s

/-- `LD R,A` (R365). -/
def exec_ld_R_A (s : State) : Out := opLdRA s

/-- `IM 1` (R363). -/
def exec_im_1 (s : State) : Out := opIm .im1 s

/-- `LD A,I` (R366). -/
def exec_ld_A_I (s : State) : Out := opLdASpecial s.i s

/-- `IM 2` (R363). -/
def exec_im_2 (s : State) : Out := opIm .im2 s

/-- `LD A,R` (R367). -/
def exec_ld_A_R (s : State) : Out := opLdASpecial s.r s

end Sys2Proof.Machine
end

