-- ==== Sys2Proof/Machine/InOut.lean ====
section
/-! DEFINITION. IN and OUT (43_base_x3.md R288, R289, 45_ed_prefix.md R350, R351); the port addresses are those of
30_encoding.md R100. -/

namespace Sys2Proof.Machine

/-- OUT (n),A (R288): the port is A:n. -/
def opOutNA (n : Byte) (s : State) : Out :=
  ioWrite (mkWord s.a n) s.a s fun s => .next (s.addT 11)

/-- IN A,(n) (R289): the port is A:n with the old A; no flag. -/
def opInAN (n : Byte) (s : State) : Out :=
  ioRead (mkWord s.a n) s fun v s => .next (State.addT 11 { s with a := v })

/-- IN r,(C) (R350): the port is B:C; C kept. -/
def opInR (n : Reg8) (s : State) : Out :=
  ioRead s.bc s fun v s =>
    .next (State.addT 12 (setReg8 .none n v (s.setF (loadFlags v (parity v) s.f))))

/-- OUT (C),r (R351): the port is B:C. -/
def opOutR (n : Reg8) (s : State) : Out :=
  ioWrite s.bc (reg8 .none n s) s fun s => .next (s.addT 12)

/-- `OUT (n),A` (R288). -/
def exec_out_pn_A (n : Byte) (s : State) : Out := opOutNA n s

/-- `IN A,(n)` (R289). -/
def exec_in_A_pn (n : Byte) (s : State) : Out := opInAN n s

/-- `IN B,(C)` (R350). -/
def exec_in_B_pC (s : State) : Out := opInR .b s

/-- `OUT (C),B` (R351). -/
def exec_out_pC_B (s : State) : Out := opOutR .b s

/-- `IN C,(C)` (R350). -/
def exec_in_C_pC (s : State) : Out := opInR .c s

/-- `OUT (C),C` (R351). -/
def exec_out_pC_C (s : State) : Out := opOutR .c s

/-- `IN D,(C)` (R350). -/
def exec_in_D_pC (s : State) : Out := opInR .d s

/-- `OUT (C),D` (R351). -/
def exec_out_pC_D (s : State) : Out := opOutR .d s

/-- `IN E,(C)` (R350). -/
def exec_in_E_pC (s : State) : Out := opInR .e s

/-- `OUT (C),E` (R351). -/
def exec_out_pC_E (s : State) : Out := opOutR .e s

/-- `IN H,(C)` (R350). -/
def exec_in_H_pC (s : State) : Out := opInR .h s

/-- `OUT (C),H` (R351). -/
def exec_out_pC_H (s : State) : Out := opOutR .h s

/-- `IN L,(C)` (R350). -/
def exec_in_L_pC (s : State) : Out := opInR .l s

/-- `OUT (C),L` (R351). -/
def exec_out_pC_L (s : State) : Out := opOutR .l s

/-- `IN A,(C)` (R350). -/
def exec_in_A_pC (s : State) : Out := opInR .a s

/-- `OUT (C),A` (R351). -/
def exec_out_pC_A (s : State) : Out := opOutR .a s

end Sys2Proof.Machine
end

