-- ==== Sys2Proof/Machine/Jump.lean ====
section
/-! DEFINITION. Jumps, calls, returns and RST (41_base_x0.md R202 to R205, 43_base_x3.md R280, R282, R284, R286, R287,
R294, R296, R297, 45_ed_prefix.md R361, R362), with the conditional costs of 70_reset_and_hazards.md R541. -/

namespace Sys2Proof.Machine

/-- JR e (R203). -/
def opJr (e : Byte) (s : State) : Out :=
  .next (State.addT 12 (s.setPC (relTarget e s)))

/-- JR cc,e (R205): 12 taken, 7 not. -/
def opJrCc (c : JrCond) (e : Byte) (s : State) : Out :=
  if cond c.toCond s.f then .next (State.addT 12 (s.setPC (relTarget e s)))
  else .next (s.addT 7)

/-- DJNZ e (R202): B counts down modulo 256; 13 taken, 8 not. -/
def opDjnz (e : Byte) (s : State) : Out :=
  if s.b - 1 = 0 then .next (State.addT 8 { s with b := s.b - 1 })
  else .next (State.addT 13 (State.setPC (relTarget e s) { s with b := s.b - 1 }))

/-- JP nn (R287). -/
def opJp (nn : Word) (s : State) : Out := .next (State.addT 10 (s.setPC nn))

/-- JP cc,nn (R286): 10 either way. -/
def opJpCc (c : Cond) (nn : Word) (s : State) : Out :=
  if cond c s.f then .next (State.addT 10 (s.setPC nn))
  else .next (s.addT 10)

/-- JP (HL), JP (IX), JP (IY) (R284): no memory is read. -/
def opJpHl (x : Ctx) (s : State) : Out := .next (State.addT (4 + ctxT x) (s.setPC (regHL x s)))

/-- Push PC and jump: the body of CALL and RST (R294, R296, R297). -/
def callTo (target : Word) (cost : Nat) (s : State) : Out :=
  push16 s.pc s fun s => .next (State.addT cost (s.setPC target))

/-- CALL nn (R296). -/
def opCall (nn : Word) (s : State) : Out := callTo nn 17 s

/-- CALL cc,nn (R294): 17 taken, 10 not. -/
def opCallCc (c : Cond) (nn : Word) (s : State) : Out :=
  if cond c s.f then callTo nn 17 s else .next (s.addT 10)

/-- RST p (R297): the target is y * 8. -/
def opRst (y : Idx8) (s : State) : Out :=
  callTo (BitVec.ofNat 16 (y.toNat * 8)) 11 s

/-- Pop PC: the body of RET (R282). -/
def returnTo (cost : Nat) (s : State) : Out :=
  pop16 s fun target s => .next (State.addT cost (s.setPC target))

/-- RET (R282). -/
def opRet (s : State) : Out := returnTo 10 s

/-- RET cc (R280): 11 taken, 5 not, with no memory access. -/
def opRetCc (c : Cond) (s : State) : Out :=
  if cond c s.f then returnTo 11 s else .next (s.addT 5)

/-- RETN (R361): no registry call, the in-service list left. -/
def opRetn (s : State) : Out := returnFromInterrupt s fun s => .next (s.addT 14)

/-- RETI (R362): as RETN, then the head of the in-service list is finished, the last action. -/
def opReti (s : State) : Out :=
  returnFromInterrupt s fun s => finishInService s fun s => .next (s.addT 14)

/-- `DJNZ e` (R202). -/
def exec_djnz_e (e : Byte) (s : State) : Out := opDjnz e s

/-- `JR e` (R203). -/
def exec_jr_e (e : Byte) (s : State) : Out := opJr e s

/-- `JR NZ,e` (R205). -/
def exec_jr_NZ_e (e : Byte) (s : State) : Out := opJrCc .nz e s

/-- `JR Z,e` (R205). -/
def exec_jr_Z_e (e : Byte) (s : State) : Out := opJrCc .z e s

/-- `JR NC,e` (R205). -/
def exec_jr_NC_e (e : Byte) (s : State) : Out := opJrCc .nc e s

/-- `JR C,e` (R205). -/
def exec_jr_C_e (e : Byte) (s : State) : Out := opJrCc .c e s

/-- `JP NZ,nn` (R286). -/
def exec_jp_NZ_nn (nn : Word) (s : State) : Out := opJpCc .nz nn s

/-- `JP nn` (R287). -/
def exec_jp_nn (nn : Word) (s : State) : Out := opJp nn s

/-- `CALL NZ,nn` (R294). -/
def exec_call_NZ_nn (nn : Word) (s : State) : Out := opCallCc .nz nn s

/-- `JP Z,nn` (R286). -/
def exec_jp_Z_nn (nn : Word) (s : State) : Out := opJpCc .z nn s

/-- `CALL Z,nn` (R294). -/
def exec_call_Z_nn (nn : Word) (s : State) : Out := opCallCc .z nn s

/-- `CALL nn` (R296). -/
def exec_call_nn (nn : Word) (s : State) : Out := opCall nn s

/-- `JP NC,nn` (R286). -/
def exec_jp_NC_nn (nn : Word) (s : State) : Out := opJpCc .nc nn s

/-- `CALL NC,nn` (R294). -/
def exec_call_NC_nn (nn : Word) (s : State) : Out := opCallCc .nc nn s

/-- `JP C,nn` (R286). -/
def exec_jp_C_nn (nn : Word) (s : State) : Out := opJpCc .c nn s

/-- `CALL C,nn` (R294). -/
def exec_call_C_nn (nn : Word) (s : State) : Out := opCallCc .c nn s

/-- `JP PO,nn` (R286). -/
def exec_jp_PO_nn (nn : Word) (s : State) : Out := opJpCc .po nn s

/-- `CALL PO,nn` (R294). -/
def exec_call_PO_nn (nn : Word) (s : State) : Out := opCallCc .po nn s

/-- `JP PE,nn` (R286). -/
def exec_jp_PE_nn (nn : Word) (s : State) : Out := opJpCc .pe nn s

/-- `CALL PE,nn` (R294). -/
def exec_call_PE_nn (nn : Word) (s : State) : Out := opCallCc .pe nn s

/-- `JP P,nn` (R286). -/
def exec_jp_P_nn (nn : Word) (s : State) : Out := opJpCc .p nn s

/-- `CALL P,nn` (R294). -/
def exec_call_P_nn (nn : Word) (s : State) : Out := opCallCc .p nn s

/-- `JP M,nn` (R286). -/
def exec_jp_M_nn (nn : Word) (s : State) : Out := opJpCc .m nn s

/-- `CALL M,nn` (R294). -/
def exec_call_M_nn (nn : Word) (s : State) : Out := opCallCc .m nn s

/-- `RET NZ` (R280). -/
def exec_ret_NZ (s : State) : Out := opRetCc .nz s

/-- `RST 00H` (R297). -/
def exec_rst_00H (s : State) : Out := opRst .i0 s

/-- `RET Z` (R280). -/
def exec_ret_Z (s : State) : Out := opRetCc .z s

/-- `RET` (R282). -/
def exec_ret (s : State) : Out := opRet s

/-- `RST 08H` (R297). -/
def exec_rst_08H (s : State) : Out := opRst .i1 s

/-- `RET NC` (R280). -/
def exec_ret_NC (s : State) : Out := opRetCc .nc s

/-- `RST 10H` (R297). -/
def exec_rst_10H (s : State) : Out := opRst .i2 s

/-- `RET C` (R280). -/
def exec_ret_C (s : State) : Out := opRetCc .c s

/-- `RST 18H` (R297). -/
def exec_rst_18H (s : State) : Out := opRst .i3 s

/-- `RET PO` (R280). -/
def exec_ret_PO (s : State) : Out := opRetCc .po s

/-- `RST 20H` (R297). -/
def exec_rst_20H (s : State) : Out := opRst .i4 s

/-- `RET PE` (R280). -/
def exec_ret_PE (s : State) : Out := opRetCc .pe s

/-- `JP (HL)` (R284). -/
def exec_jp_mHL (s : State) : Out := opJpHl .none s

/-- `RST 28H` (R297). -/
def exec_rst_28H (s : State) : Out := opRst .i5 s

/-- `RET P` (R280). -/
def exec_ret_P (s : State) : Out := opRetCc .p s

/-- `RST 30H` (R297). -/
def exec_rst_30H (s : State) : Out := opRst .i6 s

/-- `RET M` (R280). -/
def exec_ret_M (s : State) : Out := opRetCc .m s

/-- `RST 38H` (R297). -/
def exec_rst_38H (s : State) : Out := opRst .i7 s

/-- `RETN` (R361). -/
def exec_retn (s : State) : Out := opRetn s

/-- `RETI` (R362). -/
def exec_reti (s : State) : Out := opReti s

/-- `JP (IX)` (R284). -/
def exec_jp_mIX (s : State) : Out := opJpHl .ix s

/-- `JP (IY)` (R284). -/
def exec_jp_mIY (s : State) : Out := opJpHl .iy s

end Sys2Proof.Machine
end

