-- ==== Sys2Proof/Machine/Load16.lean ====
section
/-! DEFINITION. The 16-bit loads (41_base_x0.md R206, R210, R214, 43_base_x3.md R285, 45_ed_prefix.md R354, R355,
47_index_prefix.md R424). -/

namespace Sys2Proof.Machine

/-- LD rp,nn (R206). -/
def opLdRpNn (x : Ctx) (p : Rp) (nn : Word) (s : State) : Out :=
  .next (State.addT (10 + halfT x p.isHL) (setReg16 x p nn s))

/-- LD (nn),HL, LD (nn),IX, LD (nn),IY (R210) and LD (nn),rp (R354): the low byte at nn, the high byte at nn + 1. -/
def opStoreWord (nn v : Word) (cost : Nat) (s : State) : Out :=
  memWrite2 nn v s fun s => .next (s.addT cost)

/-- LD HL,(nn), LD IX,(nn), LD IY,(nn) (R214) and LD rp,(nn) (R355). -/
def opLoadWord (x : Ctx) (p : Rp) (nn : Word) (cost : Nat) (s : State) : Out :=
  memRead2 nn s fun v s => .next (State.addT cost (setReg16 x p v s))

/-- LD SP,HL, LD SP,IX, LD SP,IY (R285). -/
def opLdSpHl (x : Ctx) (s : State) : Out :=
  .next (State.addT (6 + ctxT x) { s with sp := regHL x s })

/-- `LD BC,nn` (R206). -/
def exec_ld_BC_nn (nn : Word) (s : State) : Out := opLdRpNn .none .bc nn s

/-- `LD DE,nn` (R206). -/
def exec_ld_DE_nn (nn : Word) (s : State) : Out := opLdRpNn .none .de nn s

/-- `LD HL,nn` (R206). -/
def exec_ld_HL_nn (nn : Word) (s : State) : Out := opLdRpNn .none .hl nn s

/-- `LD (nn),HL` (R210). -/
def exec_ld_mnn_HL (nn : Word) (s : State) : Out := opStoreWord nn (regHL .none s) (16 + ctxT .none) s

/-- `LD HL,(nn)` (R214). -/
def exec_ld_HL_mnn (nn : Word) (s : State) : Out := opLoadWord .none .hl nn (16 + ctxT .none) s

/-- `LD SP,nn` (R206). -/
def exec_ld_SP_nn (nn : Word) (s : State) : Out := opLdRpNn .none .sp nn s

/-- `LD (nn),BC` (R354). -/
def exec_ld_mnn_BC (nn : Word) (s : State) : Out := opStoreWord nn (reg16 .none .bc s) 20 s

/-- `LD BC,(nn)` (R355). -/
def exec_ld_BC_mnn (nn : Word) (s : State) : Out := opLoadWord .none .bc nn 20 s

/-- `LD (nn),DE` (R354). -/
def exec_ld_mnn_DE (nn : Word) (s : State) : Out := opStoreWord nn (reg16 .none .de s) 20 s

/-- `LD DE,(nn)` (R355). -/
def exec_ld_DE_mnn (nn : Word) (s : State) : Out := opLoadWord .none .de nn 20 s

/-- `LD (nn),HL` (R354). -/
def exec_ld_mnn_HL_ed (nn : Word) (s : State) : Out := opStoreWord nn (reg16 .none .hl s) 20 s

/-- `LD HL,(nn)` (R355). -/
def exec_ld_HL_mnn_ed (nn : Word) (s : State) : Out := opLoadWord .none .hl nn 20 s

/-- `LD (nn),SP` (R354). -/
def exec_ld_mnn_SP (nn : Word) (s : State) : Out := opStoreWord nn (reg16 .none .sp s) 20 s

/-- `LD SP,(nn)` (R355). -/
def exec_ld_SP_mnn (nn : Word) (s : State) : Out := opLoadWord .none .sp nn 20 s

/-- `LD IX,nn` (R206). -/
def exec_ld_IX_nn (nn : Word) (s : State) : Out := opLdRpNn .ix .hl nn s

/-- `LD (nn),IX` (R210). -/
def exec_ld_mnn_IX (nn : Word) (s : State) : Out := opStoreWord nn (regHL .ix s) (16 + ctxT .ix) s

/-- `LD IX,(nn)` (R214). -/
def exec_ld_IX_mnn (nn : Word) (s : State) : Out := opLoadWord .ix .hl nn (16 + ctxT .ix) s

/-- `LD IY,nn` (R206). -/
def exec_ld_IY_nn (nn : Word) (s : State) : Out := opLdRpNn .iy .hl nn s

/-- `LD (nn),IY` (R210). -/
def exec_ld_mnn_IY (nn : Word) (s : State) : Out := opStoreWord nn (regHL .iy s) (16 + ctxT .iy) s

/-- `LD IY,(nn)` (R214). -/
def exec_ld_IY_mnn (nn : Word) (s : State) : Out := opLoadWord .iy .hl nn (16 + ctxT .iy) s

/-- `LD SP,HL` (R285). -/
def exec_ld_SP_HL (s : State) : Out := opLdSpHl .none s

/-- `LD SP,IX` (R285). -/
def exec_ld_SP_IX (s : State) : Out := opLdSpHl .ix s

/-- `LD SP,IY` (R285). -/
def exec_ld_SP_IY (s : State) : Out := opLdSpHl .iy s

end Sys2Proof.Machine
end

