-- ==== Sys2Proof/Machine/Load8.lean ====
section
/-! DEFINITION. The 8-bit loads (41_base_x0.md R208 to R221, 42_base_x1_x2.md R250 to R252, 47_index_prefix.md R427). -/

namespace Sys2Proof.Machine

/-- LD r,r' (R250). -/
def opLdRR (x : Ctx) (dst src : Reg8) (s : State) : Out :=
  .next (State.addT (4 + halfT x (dst.isHL || src.isHL)) (setReg8 x dst (reg8 x src s) s))

/-- LD r,(HL) and LD r,(IX+d) (R251): H and L are H and L under a context too (10_state.md R42). -/
def opLdRM (x : Ctx) (dst : Reg8) (d : Byte) (s : State) : Out :=
  memRead (ea x d s) s fun v s => .next (State.addT (memT x 7 19) (setReg8 .none dst v s))

/-- LD (HL),r and LD (IX+d),r (R252). -/
def opLdMR (x : Ctx) (src : Reg8) (d : Byte) (s : State) : Out :=
  memWrite (ea x d s) (reg8 .none src s) s fun s => .next (s.addT (memT x 7 19))

/-- LD r,n (R220). -/
def opLdRN (x : Ctx) (dst : Reg8) (n : Byte) (s : State) : Out :=
  .next (State.addT (7 + halfT x dst.isHL) (setReg8 x dst n s))

/-- LD (HL),n and LD (IX+d),n (R221). -/
def opLdMN (x : Ctx) (d n : Byte) (s : State) : Out :=
  memWrite (ea x d s) n s fun s => .next (s.addT (memT x 10 19))

/-- LD (BC),A, LD (DE),A and LD (nn),A (R208, R209, R211). -/
def opStoreA (addr : Word) (cost : Nat) (s : State) : Out :=
  memWrite addr s.a s fun s => .next (s.addT cost)

/-- LD A,(BC), LD A,(DE) and LD A,(nn) (R212, R213, R215). -/
def opLoadA (addr : Word) (cost : Nat) (s : State) : Out :=
  memRead addr s fun v s => .next (State.addT cost { s with a := v })

/-- `LD B,n` (R220). -/
def exec_ld_B_n (n : Byte) (s : State) : Out := opLdRN .none .b n s

/-- `LD C,n` (R220). -/
def exec_ld_C_n (n : Byte) (s : State) : Out := opLdRN .none .c n s

/-- `LD D,n` (R220). -/
def exec_ld_D_n (n : Byte) (s : State) : Out := opLdRN .none .d n s

/-- `LD E,n` (R220). -/
def exec_ld_E_n (n : Byte) (s : State) : Out := opLdRN .none .e n s

/-- `LD H,n` (R220). -/
def exec_ld_H_n (n : Byte) (s : State) : Out := opLdRN .none .h n s

/-- `LD L,n` (R220). -/
def exec_ld_L_n (n : Byte) (s : State) : Out := opLdRN .none .l n s

/-- `LD (nn),A` (R211). -/
def exec_ld_mnn_A (nn : Word) (s : State) : Out := opStoreA nn 13 s

/-- `LD (HL),n` (R221). -/
def exec_ld_mHL_n (n : Byte) (s : State) : Out := opLdMN .none 0 n s

/-- `LD A,(nn)` (R215). -/
def exec_ld_A_mnn (nn : Word) (s : State) : Out := opLoadA nn 13 s

/-- `LD A,n` (R220). -/
def exec_ld_A_n (n : Byte) (s : State) : Out := opLdRN .none .a n s

/-- `LD IXh,n` (R220). -/
def exec_ld_IXh_n (n : Byte) (s : State) : Out := opLdRN .ix .h n s

/-- `LD IXl,n` (R220). -/
def exec_ld_IXl_n (n : Byte) (s : State) : Out := opLdRN .ix .l n s

/-- `LD (IX+d),n` (R221). -/
def exec_ld_mIXd_n (d : Byte) (n : Byte) (s : State) : Out := opLdMN .ix d n s

/-- `LD B,(IX+d)` (R251). -/
def exec_ld_B_mIXd (d : Byte) (s : State) : Out := opLdRM .ix .b d s

/-- `LD C,(IX+d)` (R251). -/
def exec_ld_C_mIXd (d : Byte) (s : State) : Out := opLdRM .ix .c d s

/-- `LD D,(IX+d)` (R251). -/
def exec_ld_D_mIXd (d : Byte) (s : State) : Out := opLdRM .ix .d d s

/-- `LD E,(IX+d)` (R251). -/
def exec_ld_E_mIXd (d : Byte) (s : State) : Out := opLdRM .ix .e d s

/-- `LD H,(IX+d)` (R251). -/
def exec_ld_H_mIXd (d : Byte) (s : State) : Out := opLdRM .ix .h d s

/-- `LD L,(IX+d)` (R251). -/
def exec_ld_L_mIXd (d : Byte) (s : State) : Out := opLdRM .ix .l d s

/-- `LD (IX+d),B` (R252). -/
def exec_ld_mIXd_B (d : Byte) (s : State) : Out := opLdMR .ix .b d s

/-- `LD (IX+d),C` (R252). -/
def exec_ld_mIXd_C (d : Byte) (s : State) : Out := opLdMR .ix .c d s

/-- `LD (IX+d),D` (R252). -/
def exec_ld_mIXd_D (d : Byte) (s : State) : Out := opLdMR .ix .d d s

/-- `LD (IX+d),E` (R252). -/
def exec_ld_mIXd_E (d : Byte) (s : State) : Out := opLdMR .ix .e d s

/-- `LD (IX+d),H` (R252). -/
def exec_ld_mIXd_H (d : Byte) (s : State) : Out := opLdMR .ix .h d s

/-- `LD (IX+d),L` (R252). -/
def exec_ld_mIXd_L (d : Byte) (s : State) : Out := opLdMR .ix .l d s

/-- `LD (IX+d),A` (R252). -/
def exec_ld_mIXd_A (d : Byte) (s : State) : Out := opLdMR .ix .a d s

/-- `LD A,(IX+d)` (R251). -/
def exec_ld_A_mIXd (d : Byte) (s : State) : Out := opLdRM .ix .a d s

/-- `LD IYh,n` (R220). -/
def exec_ld_IYh_n (n : Byte) (s : State) : Out := opLdRN .iy .h n s

/-- `LD IYl,n` (R220). -/
def exec_ld_IYl_n (n : Byte) (s : State) : Out := opLdRN .iy .l n s

/-- `LD (IY+d),n` (R221). -/
def exec_ld_mIYd_n (d : Byte) (n : Byte) (s : State) : Out := opLdMN .iy d n s

/-- `LD B,(IY+d)` (R251). -/
def exec_ld_B_mIYd (d : Byte) (s : State) : Out := opLdRM .iy .b d s

/-- `LD C,(IY+d)` (R251). -/
def exec_ld_C_mIYd (d : Byte) (s : State) : Out := opLdRM .iy .c d s

/-- `LD D,(IY+d)` (R251). -/
def exec_ld_D_mIYd (d : Byte) (s : State) : Out := opLdRM .iy .d d s

/-- `LD E,(IY+d)` (R251). -/
def exec_ld_E_mIYd (d : Byte) (s : State) : Out := opLdRM .iy .e d s

/-- `LD H,(IY+d)` (R251). -/
def exec_ld_H_mIYd (d : Byte) (s : State) : Out := opLdRM .iy .h d s

/-- `LD L,(IY+d)` (R251). -/
def exec_ld_L_mIYd (d : Byte) (s : State) : Out := opLdRM .iy .l d s

/-- `LD (IY+d),B` (R252). -/
def exec_ld_mIYd_B (d : Byte) (s : State) : Out := opLdMR .iy .b d s

/-- `LD (IY+d),C` (R252). -/
def exec_ld_mIYd_C (d : Byte) (s : State) : Out := opLdMR .iy .c d s

/-- `LD (IY+d),D` (R252). -/
def exec_ld_mIYd_D (d : Byte) (s : State) : Out := opLdMR .iy .d d s

/-- `LD (IY+d),E` (R252). -/
def exec_ld_mIYd_E (d : Byte) (s : State) : Out := opLdMR .iy .e d s

/-- `LD (IY+d),H` (R252). -/
def exec_ld_mIYd_H (d : Byte) (s : State) : Out := opLdMR .iy .h d s

/-- `LD (IY+d),L` (R252). -/
def exec_ld_mIYd_L (d : Byte) (s : State) : Out := opLdMR .iy .l d s

/-- `LD (IY+d),A` (R252). -/
def exec_ld_mIYd_A (d : Byte) (s : State) : Out := opLdMR .iy .a d s

/-- `LD A,(IY+d)` (R251). -/
def exec_ld_A_mIYd (d : Byte) (s : State) : Out := opLdRM .iy .a d s

/-- `LD (BC),A` (R208). -/
def exec_ld_mBC_A (s : State) : Out := opStoreA s.bc 7 s

/-- `LD A,(BC)` (R212). -/
def exec_ld_A_mBC (s : State) : Out := opLoadA s.bc 7 s

/-- `LD (DE),A` (R209). -/
def exec_ld_mDE_A (s : State) : Out := opStoreA s.de 7 s

/-- `LD A,(DE)` (R213). -/
def exec_ld_A_mDE (s : State) : Out := opLoadA s.de 7 s

/-- `LD B,B` (R250). -/
def exec_ld_B_B (s : State) : Out := opLdRR .none .b .b s

/-- `LD B,C` (R250). -/
def exec_ld_B_C (s : State) : Out := opLdRR .none .b .c s

/-- `LD B,D` (R250). -/
def exec_ld_B_D (s : State) : Out := opLdRR .none .b .d s

/-- `LD B,E` (R250). -/
def exec_ld_B_E (s : State) : Out := opLdRR .none .b .e s

/-- `LD B,H` (R250). -/
def exec_ld_B_H (s : State) : Out := opLdRR .none .b .h s

/-- `LD B,L` (R250). -/
def exec_ld_B_L (s : State) : Out := opLdRR .none .b .l s

/-- `LD B,(HL)` (R251). -/
def exec_ld_B_mHL (s : State) : Out := opLdRM .none .b 0 s

/-- `LD B,A` (R250). -/
def exec_ld_B_A (s : State) : Out := opLdRR .none .b .a s

/-- `LD C,B` (R250). -/
def exec_ld_C_B (s : State) : Out := opLdRR .none .c .b s

/-- `LD C,C` (R250). -/
def exec_ld_C_C (s : State) : Out := opLdRR .none .c .c s

/-- `LD C,D` (R250). -/
def exec_ld_C_D (s : State) : Out := opLdRR .none .c .d s

/-- `LD C,E` (R250). -/
def exec_ld_C_E (s : State) : Out := opLdRR .none .c .e s

/-- `LD C,H` (R250). -/
def exec_ld_C_H (s : State) : Out := opLdRR .none .c .h s

/-- `LD C,L` (R250). -/
def exec_ld_C_L (s : State) : Out := opLdRR .none .c .l s

/-- `LD C,(HL)` (R251). -/
def exec_ld_C_mHL (s : State) : Out := opLdRM .none .c 0 s

/-- `LD C,A` (R250). -/
def exec_ld_C_A (s : State) : Out := opLdRR .none .c .a s

/-- `LD D,B` (R250). -/
def exec_ld_D_B (s : State) : Out := opLdRR .none .d .b s

/-- `LD D,C` (R250). -/
def exec_ld_D_C (s : State) : Out := opLdRR .none .d .c s

/-- `LD D,D` (R250). -/
def exec_ld_D_D (s : State) : Out := opLdRR .none .d .d s

/-- `LD D,E` (R250). -/
def exec_ld_D_E (s : State) : Out := opLdRR .none .d .e s

/-- `LD D,H` (R250). -/
def exec_ld_D_H (s : State) : Out := opLdRR .none .d .h s

/-- `LD D,L` (R250). -/
def exec_ld_D_L (s : State) : Out := opLdRR .none .d .l s

/-- `LD D,(HL)` (R251). -/
def exec_ld_D_mHL (s : State) : Out := opLdRM .none .d 0 s

/-- `LD D,A` (R250). -/
def exec_ld_D_A (s : State) : Out := opLdRR .none .d .a s

/-- `LD E,B` (R250). -/
def exec_ld_E_B (s : State) : Out := opLdRR .none .e .b s

/-- `LD E,C` (R250). -/
def exec_ld_E_C (s : State) : Out := opLdRR .none .e .c s

/-- `LD E,D` (R250). -/
def exec_ld_E_D (s : State) : Out := opLdRR .none .e .d s

/-- `LD E,E` (R250). -/
def exec_ld_E_E (s : State) : Out := opLdRR .none .e .e s

/-- `LD E,H` (R250). -/
def exec_ld_E_H (s : State) : Out := opLdRR .none .e .h s

/-- `LD E,L` (R250). -/
def exec_ld_E_L (s : State) : Out := opLdRR .none .e .l s

/-- `LD E,(HL)` (R251). -/
def exec_ld_E_mHL (s : State) : Out := opLdRM .none .e 0 s

/-- `LD E,A` (R250). -/
def exec_ld_E_A (s : State) : Out := opLdRR .none .e .a s

/-- `LD H,B` (R250). -/
def exec_ld_H_B (s : State) : Out := opLdRR .none .h .b s

/-- `LD H,C` (R250). -/
def exec_ld_H_C (s : State) : Out := opLdRR .none .h .c s

/-- `LD H,D` (R250). -/
def exec_ld_H_D (s : State) : Out := opLdRR .none .h .d s

/-- `LD H,E` (R250). -/
def exec_ld_H_E (s : State) : Out := opLdRR .none .h .e s

/-- `LD H,H` (R250). -/
def exec_ld_H_H (s : State) : Out := opLdRR .none .h .h s

/-- `LD H,L` (R250). -/
def exec_ld_H_L (s : State) : Out := opLdRR .none .h .l s

/-- `LD H,(HL)` (R251). -/
def exec_ld_H_mHL (s : State) : Out := opLdRM .none .h 0 s

/-- `LD H,A` (R250). -/
def exec_ld_H_A (s : State) : Out := opLdRR .none .h .a s

/-- `LD L,B` (R250). -/
def exec_ld_L_B (s : State) : Out := opLdRR .none .l .b s

/-- `LD L,C` (R250). -/
def exec_ld_L_C (s : State) : Out := opLdRR .none .l .c s

/-- `LD L,D` (R250). -/
def exec_ld_L_D (s : State) : Out := opLdRR .none .l .d s

/-- `LD L,E` (R250). -/
def exec_ld_L_E (s : State) : Out := opLdRR .none .l .e s

/-- `LD L,H` (R250). -/
def exec_ld_L_H (s : State) : Out := opLdRR .none .l .h s

/-- `LD L,L` (R250). -/
def exec_ld_L_L (s : State) : Out := opLdRR .none .l .l s

/-- `LD L,(HL)` (R251). -/
def exec_ld_L_mHL (s : State) : Out := opLdRM .none .l 0 s

/-- `LD L,A` (R250). -/
def exec_ld_L_A (s : State) : Out := opLdRR .none .l .a s

/-- `LD (HL),B` (R252). -/
def exec_ld_mHL_B (s : State) : Out := opLdMR .none .b 0 s

/-- `LD (HL),C` (R252). -/
def exec_ld_mHL_C (s : State) : Out := opLdMR .none .c 0 s

/-- `LD (HL),D` (R252). -/
def exec_ld_mHL_D (s : State) : Out := opLdMR .none .d 0 s

/-- `LD (HL),E` (R252). -/
def exec_ld_mHL_E (s : State) : Out := opLdMR .none .e 0 s

/-- `LD (HL),H` (R252). -/
def exec_ld_mHL_H (s : State) : Out := opLdMR .none .h 0 s

/-- `LD (HL),L` (R252). -/
def exec_ld_mHL_L (s : State) : Out := opLdMR .none .l 0 s

/-- `LD (HL),A` (R252). -/
def exec_ld_mHL_A (s : State) : Out := opLdMR .none .a 0 s

/-- `LD A,B` (R250). -/
def exec_ld_A_B (s : State) : Out := opLdRR .none .a .b s

/-- `LD A,C` (R250). -/
def exec_ld_A_C (s : State) : Out := opLdRR .none .a .c s

/-- `LD A,D` (R250). -/
def exec_ld_A_D (s : State) : Out := opLdRR .none .a .d s

/-- `LD A,E` (R250). -/
def exec_ld_A_E (s : State) : Out := opLdRR .none .a .e s

/-- `LD A,H` (R250). -/
def exec_ld_A_H (s : State) : Out := opLdRR .none .a .h s

/-- `LD A,L` (R250). -/
def exec_ld_A_L (s : State) : Out := opLdRR .none .a .l s

/-- `LD A,(HL)` (R251). -/
def exec_ld_A_mHL (s : State) : Out := opLdRM .none .a 0 s

/-- `LD A,A` (R250). -/
def exec_ld_A_A (s : State) : Out := opLdRR .none .a .a s

/-- `LD B,IXh` (R250). -/
def exec_ld_B_IXh (s : State) : Out := opLdRR .ix .b .h s

/-- `LD B,IXl` (R250). -/
def exec_ld_B_IXl (s : State) : Out := opLdRR .ix .b .l s

/-- `LD C,IXh` (R250). -/
def exec_ld_C_IXh (s : State) : Out := opLdRR .ix .c .h s

/-- `LD C,IXl` (R250). -/
def exec_ld_C_IXl (s : State) : Out := opLdRR .ix .c .l s

/-- `LD D,IXh` (R250). -/
def exec_ld_D_IXh (s : State) : Out := opLdRR .ix .d .h s

/-- `LD D,IXl` (R250). -/
def exec_ld_D_IXl (s : State) : Out := opLdRR .ix .d .l s

/-- `LD E,IXh` (R250). -/
def exec_ld_E_IXh (s : State) : Out := opLdRR .ix .e .h s

/-- `LD E,IXl` (R250). -/
def exec_ld_E_IXl (s : State) : Out := opLdRR .ix .e .l s

/-- `LD IXh,B` (R250). -/
def exec_ld_IXh_B (s : State) : Out := opLdRR .ix .h .b s

/-- `LD IXh,C` (R250). -/
def exec_ld_IXh_C (s : State) : Out := opLdRR .ix .h .c s

/-- `LD IXh,D` (R250). -/
def exec_ld_IXh_D (s : State) : Out := opLdRR .ix .h .d s

/-- `LD IXh,E` (R250). -/
def exec_ld_IXh_E (s : State) : Out := opLdRR .ix .h .e s

/-- `LD IXh,IXh` (R250). -/
def exec_ld_IXh_IXh (s : State) : Out := opLdRR .ix .h .h s

/-- `LD IXh,IXl` (R250). -/
def exec_ld_IXh_IXl (s : State) : Out := opLdRR .ix .h .l s

/-- `LD IXh,A` (R250). -/
def exec_ld_IXh_A (s : State) : Out := opLdRR .ix .h .a s

/-- `LD IXl,B` (R250). -/
def exec_ld_IXl_B (s : State) : Out := opLdRR .ix .l .b s

/-- `LD IXl,C` (R250). -/
def exec_ld_IXl_C (s : State) : Out := opLdRR .ix .l .c s

/-- `LD IXl,D` (R250). -/
def exec_ld_IXl_D (s : State) : Out := opLdRR .ix .l .d s

/-- `LD IXl,E` (R250). -/
def exec_ld_IXl_E (s : State) : Out := opLdRR .ix .l .e s

/-- `LD IXl,IXh` (R250). -/
def exec_ld_IXl_IXh (s : State) : Out := opLdRR .ix .l .h s

/-- `LD IXl,IXl` (R250). -/
def exec_ld_IXl_IXl (s : State) : Out := opLdRR .ix .l .l s

/-- `LD IXl,A` (R250). -/
def exec_ld_IXl_A (s : State) : Out := opLdRR .ix .l .a s

/-- `LD A,IXh` (R250). -/
def exec_ld_A_IXh (s : State) : Out := opLdRR .ix .a .h s

/-- `LD A,IXl` (R250). -/
def exec_ld_A_IXl (s : State) : Out := opLdRR .ix .a .l s

/-- `LD B,IYh` (R250). -/
def exec_ld_B_IYh (s : State) : Out := opLdRR .iy .b .h s

/-- `LD B,IYl` (R250). -/
def exec_ld_B_IYl (s : State) : Out := opLdRR .iy .b .l s

/-- `LD C,IYh` (R250). -/
def exec_ld_C_IYh (s : State) : Out := opLdRR .iy .c .h s

/-- `LD C,IYl` (R250). -/
def exec_ld_C_IYl (s : State) : Out := opLdRR .iy .c .l s

/-- `LD D,IYh` (R250). -/
def exec_ld_D_IYh (s : State) : Out := opLdRR .iy .d .h s

/-- `LD D,IYl` (R250). -/
def exec_ld_D_IYl (s : State) : Out := opLdRR .iy .d .l s

/-- `LD E,IYh` (R250). -/
def exec_ld_E_IYh (s : State) : Out := opLdRR .iy .e .h s

/-- `LD E,IYl` (R250). -/
def exec_ld_E_IYl (s : State) : Out := opLdRR .iy .e .l s

/-- `LD IYh,B` (R250). -/
def exec_ld_IYh_B (s : State) : Out := opLdRR .iy .h .b s

/-- `LD IYh,C` (R250). -/
def exec_ld_IYh_C (s : State) : Out := opLdRR .iy .h .c s

/-- `LD IYh,D` (R250). -/
def exec_ld_IYh_D (s : State) : Out := opLdRR .iy .h .d s

/-- `LD IYh,E` (R250). -/
def exec_ld_IYh_E (s : State) : Out := opLdRR .iy .h .e s

/-- `LD IYh,IYh` (R250). -/
def exec_ld_IYh_IYh (s : State) : Out := opLdRR .iy .h .h s

/-- `LD IYh,IYl` (R250). -/
def exec_ld_IYh_IYl (s : State) : Out := opLdRR .iy .h .l s

/-- `LD IYh,A` (R250). -/
def exec_ld_IYh_A (s : State) : Out := opLdRR .iy .h .a s

/-- `LD IYl,B` (R250). -/
def exec_ld_IYl_B (s : State) : Out := opLdRR .iy .l .b s

/-- `LD IYl,C` (R250). -/
def exec_ld_IYl_C (s : State) : Out := opLdRR .iy .l .c s

/-- `LD IYl,D` (R250). -/
def exec_ld_IYl_D (s : State) : Out := opLdRR .iy .l .d s

/-- `LD IYl,E` (R250). -/
def exec_ld_IYl_E (s : State) : Out := opLdRR .iy .l .e s

/-- `LD IYl,IYh` (R250). -/
def exec_ld_IYl_IYh (s : State) : Out := opLdRR .iy .l .h s

/-- `LD IYl,IYl` (R250). -/
def exec_ld_IYl_IYl (s : State) : Out := opLdRR .iy .l .l s

/-- `LD IYl,A` (R250). -/
def exec_ld_IYl_A (s : State) : Out := opLdRR .iy .l .a s

/-- `LD A,IYh` (R250). -/
def exec_ld_A_IYh (s : State) : Out := opLdRR .iy .a .h s

/-- `LD A,IYl` (R250). -/
def exec_ld_A_IYl (s : State) : Out := opLdRR .iy .a .l s

end Sys2Proof.Machine
end

