-- ==== Sys2Proof/Machine/RotShift.lean ====
section
/-! DEFINITION. The CB rotates and shifts on registers, (HL), (IX+d) and (IY+d) (44_cb_prefix.md R330 to R337,
47_index_prefix.md R429). CB has no index context: the register form works on H and L. -/

namespace Sys2Proof.Machine

/-- A rotate or shift of a register (R331 to R337). -/
def opRotR (op : RotOp) (n : Reg8) (s : State) : Out :=
  .next (State.addT 8
    (setReg8 .none n (rotate op (reg8 .none n s) s.f).1 (s.setF (rotate op (reg8 .none n s) s.f).2)))

/-- A rotate or shift of the memory operand: read, then write (R330, R429). Cost 15, indexed 23 or 15
(R540, log 13).
The function writes the flags as it computes the result, before the store (log 12). -/
def opRotM (x : Ctx) (op : RotOp) (d : Byte) (s : State) : Out :=
  memRead (ea x d s) s fun v s1 =>
    memWrite (ea x d s) (rotate op v s1.f).1 (s1.setF (rotate op v s1.f).2) fun s2 =>
      .next (s2.addT (cbMemT x s.params 15 23))

/-- `RLC (IX+d)` (R429). -/
def exec_rlc_mIXd (d : Byte) (s : State) : Out := opRotM .ix .rlc d s

/-- `RRC (IX+d)` (R429). -/
def exec_rrc_mIXd (d : Byte) (s : State) : Out := opRotM .ix .rrc d s

/-- `RL (IX+d)` (R429). -/
def exec_rl_mIXd (d : Byte) (s : State) : Out := opRotM .ix .rl d s

/-- `RR (IX+d)` (R429). -/
def exec_rr_mIXd (d : Byte) (s : State) : Out := opRotM .ix .rr d s

/-- `SLA (IX+d)` (R429). -/
def exec_sla_mIXd (d : Byte) (s : State) : Out := opRotM .ix .sla d s

/-- `SRA (IX+d)` (R429). -/
def exec_sra_mIXd (d : Byte) (s : State) : Out := opRotM .ix .sra d s

/-- `SRL (IX+d)` (R429). -/
def exec_srl_mIXd (d : Byte) (s : State) : Out := opRotM .ix .srl d s

/-- `RLC (IY+d)` (R429). -/
def exec_rlc_mIYd (d : Byte) (s : State) : Out := opRotM .iy .rlc d s

/-- `RRC (IY+d)` (R429). -/
def exec_rrc_mIYd (d : Byte) (s : State) : Out := opRotM .iy .rrc d s

/-- `RL (IY+d)` (R429). -/
def exec_rl_mIYd (d : Byte) (s : State) : Out := opRotM .iy .rl d s

/-- `RR (IY+d)` (R429). -/
def exec_rr_mIYd (d : Byte) (s : State) : Out := opRotM .iy .rr d s

/-- `SLA (IY+d)` (R429). -/
def exec_sla_mIYd (d : Byte) (s : State) : Out := opRotM .iy .sla d s

/-- `SRA (IY+d)` (R429). -/
def exec_sra_mIYd (d : Byte) (s : State) : Out := opRotM .iy .sra d s

/-- `SRL (IY+d)` (R429). -/
def exec_srl_mIYd (d : Byte) (s : State) : Out := opRotM .iy .srl d s

/-- `RLC B` (R331). -/
def exec_rlc_B (s : State) : Out := opRotR .rlc .b s

/-- `RLC C` (R331). -/
def exec_rlc_C (s : State) : Out := opRotR .rlc .c s

/-- `RLC D` (R331). -/
def exec_rlc_D (s : State) : Out := opRotR .rlc .d s

/-- `RLC E` (R331). -/
def exec_rlc_E (s : State) : Out := opRotR .rlc .e s

/-- `RLC H` (R331). -/
def exec_rlc_H (s : State) : Out := opRotR .rlc .h s

/-- `RLC L` (R331). -/
def exec_rlc_L (s : State) : Out := opRotR .rlc .l s

/-- `RLC (HL)` (R331). -/
def exec_rlc_mHL (s : State) : Out := opRotM .none .rlc 0 s

/-- `RLC A` (R331). -/
def exec_rlc_A (s : State) : Out := opRotR .rlc .a s

/-- `RRC B` (R332). -/
def exec_rrc_B (s : State) : Out := opRotR .rrc .b s

/-- `RRC C` (R332). -/
def exec_rrc_C (s : State) : Out := opRotR .rrc .c s

/-- `RRC D` (R332). -/
def exec_rrc_D (s : State) : Out := opRotR .rrc .d s

/-- `RRC E` (R332). -/
def exec_rrc_E (s : State) : Out := opRotR .rrc .e s

/-- `RRC H` (R332). -/
def exec_rrc_H (s : State) : Out := opRotR .rrc .h s

/-- `RRC L` (R332). -/
def exec_rrc_L (s : State) : Out := opRotR .rrc .l s

/-- `RRC (HL)` (R332). -/
def exec_rrc_mHL (s : State) : Out := opRotM .none .rrc 0 s

/-- `RRC A` (R332). -/
def exec_rrc_A (s : State) : Out := opRotR .rrc .a s

/-- `RL B` (R333). -/
def exec_rl_B (s : State) : Out := opRotR .rl .b s

/-- `RL C` (R333). -/
def exec_rl_C (s : State) : Out := opRotR .rl .c s

/-- `RL D` (R333). -/
def exec_rl_D (s : State) : Out := opRotR .rl .d s

/-- `RL E` (R333). -/
def exec_rl_E (s : State) : Out := opRotR .rl .e s

/-- `RL H` (R333). -/
def exec_rl_H (s : State) : Out := opRotR .rl .h s

/-- `RL L` (R333). -/
def exec_rl_L (s : State) : Out := opRotR .rl .l s

/-- `RL (HL)` (R333). -/
def exec_rl_mHL (s : State) : Out := opRotM .none .rl 0 s

/-- `RL A` (R333). -/
def exec_rl_A (s : State) : Out := opRotR .rl .a s

/-- `RR B` (R334). -/
def exec_rr_B (s : State) : Out := opRotR .rr .b s

/-- `RR C` (R334). -/
def exec_rr_C (s : State) : Out := opRotR .rr .c s

/-- `RR D` (R334). -/
def exec_rr_D (s : State) : Out := opRotR .rr .d s

/-- `RR E` (R334). -/
def exec_rr_E (s : State) : Out := opRotR .rr .e s

/-- `RR H` (R334). -/
def exec_rr_H (s : State) : Out := opRotR .rr .h s

/-- `RR L` (R334). -/
def exec_rr_L (s : State) : Out := opRotR .rr .l s

/-- `RR (HL)` (R334). -/
def exec_rr_mHL (s : State) : Out := opRotM .none .rr 0 s

/-- `RR A` (R334). -/
def exec_rr_A (s : State) : Out := opRotR .rr .a s

/-- `SLA B` (R335). -/
def exec_sla_B (s : State) : Out := opRotR .sla .b s

/-- `SLA C` (R335). -/
def exec_sla_C (s : State) : Out := opRotR .sla .c s

/-- `SLA D` (R335). -/
def exec_sla_D (s : State) : Out := opRotR .sla .d s

/-- `SLA E` (R335). -/
def exec_sla_E (s : State) : Out := opRotR .sla .e s

/-- `SLA H` (R335). -/
def exec_sla_H (s : State) : Out := opRotR .sla .h s

/-- `SLA L` (R335). -/
def exec_sla_L (s : State) : Out := opRotR .sla .l s

/-- `SLA (HL)` (R335). -/
def exec_sla_mHL (s : State) : Out := opRotM .none .sla 0 s

/-- `SLA A` (R335). -/
def exec_sla_A (s : State) : Out := opRotR .sla .a s

/-- `SRA B` (R336). -/
def exec_sra_B (s : State) : Out := opRotR .sra .b s

/-- `SRA C` (R336). -/
def exec_sra_C (s : State) : Out := opRotR .sra .c s

/-- `SRA D` (R336). -/
def exec_sra_D (s : State) : Out := opRotR .sra .d s

/-- `SRA E` (R336). -/
def exec_sra_E (s : State) : Out := opRotR .sra .e s

/-- `SRA H` (R336). -/
def exec_sra_H (s : State) : Out := opRotR .sra .h s

/-- `SRA L` (R336). -/
def exec_sra_L (s : State) : Out := opRotR .sra .l s

/-- `SRA (HL)` (R336). -/
def exec_sra_mHL (s : State) : Out := opRotM .none .sra 0 s

/-- `SRA A` (R336). -/
def exec_sra_A (s : State) : Out := opRotR .sra .a s

/-- `SRL B` (R337). -/
def exec_srl_B (s : State) : Out := opRotR .srl .b s

/-- `SRL C` (R337). -/
def exec_srl_C (s : State) : Out := opRotR .srl .c s

/-- `SRL D` (R337). -/
def exec_srl_D (s : State) : Out := opRotR .srl .d s

/-- `SRL E` (R337). -/
def exec_srl_E (s : State) : Out := opRotR .srl .e s

/-- `SRL H` (R337). -/
def exec_srl_H (s : State) : Out := opRotR .srl .h s

/-- `SRL L` (R337). -/
def exec_srl_L (s : State) : Out := opRotR .srl .l s

/-- `SRL (HL)` (R337). -/
def exec_srl_mHL (s : State) : Out := opRotM .none .srl 0 s

/-- `SRL A` (R337). -/
def exec_srl_A (s : State) : Out := opRotR .srl .a s

end Sys2Proof.Machine
end

