-- ==== Sys2Proof/Machine/Stack.lean ====
section
/-! DEFINITION. PUSH, POP and the exchanges (41_base_x0.md R201, 43_base_x3.md R281, R283, R290, R291, R295). -/

namespace Sys2Proof.Machine

/-- PUSH rp2 (R295). -/
def opPush (x : Ctx) (p : Rp2) (s : State) : Out :=
  push16 (reg16af x p s) s fun s => .next (s.addT (11 + halfT x p.isHL))

/-- POP rp2 (R281). -/
def opPop (x : Ctx) (p : Rp2) (s : State) : Out :=
  pop16 s fun v s => .next (State.addT (10 + halfT x p.isHL) (setReg16af x p v s))

/-- EX AF,AF' (R201): all eight flag bits move. -/
def opExAf (s : State) : Out :=
  .next (State.addT 4 { s with a := s.aAlt, f := s.fAlt, aAlt := s.a, fAlt := s.f })

/-- EXX (R283). -/
def opExx (s : State) : Out :=
  .next (State.addT 4
    { s with
      b := s.bAlt, c := s.cAlt, d := s.dAlt, e := s.eAlt, h := s.hAlt, l := s.lAlt
      bAlt := s.b, cAlt := s.c, dAlt := s.d, eAlt := s.e, hAlt := s.h, lAlt := s.l })

/-- EX DE,HL (R291). -/
def opExDeHl (s : State) : Out :=
  .next (State.addT 4 { s with d := s.h, e := s.l, h := s.d, l := s.e })

/-- EX (SP),HL, EX (SP),IX, EX (SP),IY (R290): read SP, read SP + 1, write SP + 1, write SP (D19); SP is kept. -/
def opExSp (x : Ctx) (s : State) : Out :=
  memRead s.sp s fun lo s => memRead (s.sp + 1) s fun hi s =>
    memWrite (s.sp + 1) (hiByte (regHL x s)) s fun s1 =>
      memWrite s1.sp (loByte (regHL x s)) s1 fun s2 =>
        .next (State.addT (19 + ctxT x) (setRegHL x (mkWord hi lo) s2))

/-- `EX AF,AF'` (R201). -/
def exec_ex_AF_AFs (s : State) : Out := opExAf s

/-- `POP BC` (R281). -/
def exec_pop_BC (s : State) : Out := opPop .none .bc s

/-- `PUSH BC` (R295). -/
def exec_push_BC (s : State) : Out := opPush .none .bc s

/-- `POP DE` (R281). -/
def exec_pop_DE (s : State) : Out := opPop .none .de s

/-- `PUSH DE` (R295). -/
def exec_push_DE (s : State) : Out := opPush .none .de s

/-- `EXX` (R283). -/
def exec_exx (s : State) : Out := opExx s

/-- `POP HL` (R281). -/
def exec_pop_HL (s : State) : Out := opPop .none .hl s

/-- `EX (SP),HL` (R290). -/
def exec_ex_mSP_HL (s : State) : Out := opExSp .none s

/-- `PUSH HL` (R295). -/
def exec_push_HL (s : State) : Out := opPush .none .hl s

/-- `EX DE,HL` (R291). -/
def exec_ex_DE_HL (s : State) : Out := opExDeHl s

/-- `POP AF` (R281). -/
def exec_pop_AF (s : State) : Out := opPop .none .af s

/-- `PUSH AF` (R295). -/
def exec_push_AF (s : State) : Out := opPush .none .af s

/-- `POP IX` (R281). -/
def exec_pop_IX (s : State) : Out := opPop .ix .hl s

/-- `EX (SP),IX` (R290). -/
def exec_ex_mSP_IX (s : State) : Out := opExSp .ix s

/-- `PUSH IX` (R295). -/
def exec_push_IX (s : State) : Out := opPush .ix .hl s

/-- `POP IY` (R281). -/
def exec_pop_IY (s : State) : Out := opPop .iy .hl s

/-- `EX (SP),IY` (R290). -/
def exec_ex_mSP_IY (s : State) : Out := opExSp .iy s

/-- `PUSH IY` (R295). -/
def exec_push_IY (s : State) : Out := opPush .iy .hl s

end Sys2Proof.Machine
end

