-- ==== Sys2Proof/Machine/Fetch.lean ====
section
/-! DEFINITION. Fetching an instruction from memory through the decoder's tree, running it, and the body of a step
(30_encoding.md R90, R97, R101; 00_scope.md R10). -/

namespace Sys2Proof.Machine

/-- PC past the byte just fetched, modulo 65536, and R counted when the byte is an opcode byte (R10, R36). -/
def State.fetched (m1 : Bool) (s : State) : State :=
  if m1 then State.incR { s with pc := s.pc + 1 } else { s with pc := s.pc + 1 }

/-- Walk the decoder's tree, one `FetchOpcode()` or `FetchByte()` per byte (R101). `passT` counts the T-states of a
pass-through DD or FD byte (R425), `bytes` is what the step has fetched; a cell outside the admitted set raises
UnknownOpcode with them (R97, R481). The rest of the step gets the instruction, `passT` and the state. -/
def fetchTree : Dec → Nat → List Byte → State → (Instr → Nat → State → Out) → Out
  | .done i, passT, _, s, k => k i passT s
  | .unknown, _, bytes, s, _ => raise (.unknownOpcode s.start bytes) s
  | .pass next, passT, bytes, s, k => fetchTree next (passT + 4) bytes s k
  | .more m1 next, passT, bytes, s, k =>
    memRead s.pc s fun b s => fetchTree (next b) passT (bytes ++ [b]) (s.fetched m1) k

/-- Run a decoded instruction: its meaning, and after it the 4 T-states of a pass-through byte (R425, R540). A fault
in the instruction adds neither (60_exceptions.md R484). -/
def runInstr (i : Instr) (passT : Nat) (s : State) : Out :=
  match exec i s with
  | .next s => .next (s.addT passT)
  | .fault r => .fault r
  | .refused r => .refused r

/-- `start <- PC` and `ExecuteInstruction(start)` (R90, R101). -/
def executeInstruction (s : State) : Out :=
  fetchTree decoder 0 [] { s with start := s.pc } runInstr

/-- The second and third part of a step (R90): a halted core idles (60_exceptions.md R500), any other runs one
instruction. -/
def haltOrExecute (s : State) : Out :=
  if s.halted then haltedStep s else executeInstruction s

/-- The body of a step (R90): the interrupt check, then the rest. `start` is PC, which a fault in the acceptance
names (60_exceptions.md R480, log 11). -/
def stepBody (s : State) : Out :=
  interruptCheck { s with start := s.pc } haltOrExecute

end Sys2Proof.Machine
end

