-- ==== Sys2Proof/Machine/Step.lean ====
section
/-! DEFINITION. `step()` (30_encoding.md R90): one instruction, possibly after one interrupt acceptance; and the state
in which the next step fetches a given encoding. -/

namespace Sys2Proof.Machine

/-- One step. "While fault is not none the core has no step" (10_state.md R46): such a core is refused. -/
def step (s : State) : Host.Outcome State Fault Refusal :=
  match s.fault with
  | some _ => .refused .coreFaulted
  | none => stepBody s

/-- The state with an encoding of `nbits` bits, numbered as spec/opcode_table.json numbers them, stored at PC, and
with nothing left that would keep the next step from fetching it: no fault, no halt, no answer of the registry or
error of an adapter waiting (log 14). At reset only the memory changes. -/
def State.withFetchWord (s : State) (nbits w : Nat) : State :=
  { s with
    mem := s.mem.writeBytes s.pc (tableLayout nbits w)
    fault := none
    halted := false
    irqs := []
    adapterErrs := [] }

end Sys2Proof.Machine
end

