-- ==== Sys2Proof/Safety.lean ====
section
/-! DEFINITION. What counts as a sound state and as the end of a run (70_reset_and_hazards.md R543). -/

namespace Sys2Proof.Machine

/-- The invariant every step keeps. The memory is in its canonical form. IFF1 is set only where IFF2 is: EI, DI and
an acceptance write both, RETN and RETI copy IFF2 to IFF1 (10_state.md R33). The mark of EI and DI is never up on a
halted core: a step clears it before it runs HALT (R35, R37). -/
structure State.Inv (s : State) : Prop where
  memWf : s.mem.wf = true
  iffOrder : s.iff1 = true → s.iff2 = true
  delayAwake : s.eiDiDelay = true → s.halted = false

/-- The states R543 names. -/
inductive RunEnd where
  | faulted
  | haltedMasked
  | haltedWaiting
  | running
  deriving DecidableEq, Repr

/-- Which of them a state is (R543): `running` is a state only the host can end a run in. -/
def State.runEnd (s : State) : RunEnd :=
  match s.fault with
  | some _ => .faulted
  | none => if s.halted then (if s.iff1 then .haltedWaiting else .haltedMasked) else .running

/-- A safe outcome: the machine goes on. -/
def Out.goesOn (o : Out) : Prop := ∃ s, o = .next s

end Sys2Proof.Machine
end

