-- ==== Sys2Proof/Certificates/Slice0/Obligations.lean ====
section
/-! DEFINITION. The statements for the provers. Helper predicates first: each says what a form changes and, by an
equation that takes every other field from the state before, that it changes nothing else. Families are named by the
decoder's `mk` functions: `mkLdRR x dst src` is every LD r,r' with its IX and IY halves, and so on. -/

namespace Sys2Proof.Machine

/-- The operand (y, r) is another register than (x, n): another index, or a half of another pair. -/
def OtherReg8 (x : Ctx) (n : Reg8) (y : Ctx) (r : Reg8) : Prop := r ≠ n ∨ (r.isHL = true ∧ y ≠ x)

/-- The operand (y, q) is another pair than (x, p). -/
def OtherRp (x : Ctx) (p : Rp) (y : Ctx) (q : Rp) : Prop := q ≠ p ∨ (q.isHL = true ∧ y ≠ x)

/-- From `s` to `t` the register operand becomes `v`, F becomes `g`, tstates grows by `cost`, and nothing else
changes: no other register, no half of the other index register, no byte of memory. -/
def WritesReg8 (x : Ctx) (n : Reg8) (v : Byte) (g : Flags) (cost : Nat) (s t : State) : Prop :=
  reg8 x n t = v ∧
  (∀ y r, OtherReg8 x n y r → reg8 y r t = reg8 y r s) ∧
  t = { s with
    a := t.a, b := t.b, c := t.c, d := t.d, e := t.e, h := t.h, l := t.l, ix := t.ix, iy := t.iy
    f := g, tstates := s.tstates + cost }

/-- The same for a register pair operand; A is unchanged. -/
def WritesRp (x : Ctx) (p : Rp) (v : Word) (g : Flags) (cost : Nat) (s t : State) : Prop :=
  reg16 x p t = v ∧
  (∀ y q, OtherRp x p y q → reg16 y q t = reg16 y q s) ∧
  t = { s with
    b := t.b, c := t.c, d := t.d, e := t.e, h := t.h, l := t.l, ix := t.ix, iy := t.iy, sp := t.sp
    f := g, tstates := s.tstates + cost }

/-- The state after one read of a byte has been logged. -/
def State.afterRead (a : Word) (s : State) : State := { s with trace := .memRead a (s.mem.read a) :: s.trace }

/-- The state after the two reads of a word have been logged. -/
def State.afterRead2 (a : Word) (s : State) : State :=
  { s with trace := .memRead (a + 1) (s.mem.read (a + 1)) :: .memRead a (s.mem.read a) :: s.trace }

/-- The word at an address, low byte first. -/
def wordAt (m : Memory) (a : Word) : Word := mkWord (m.read (a + 1)) (m.read a)

/-- From `s` to `t` the byte at `a` becomes `v` by one write call, and no other byte and nothing else changes, but
for F, which becomes `g`, and tstates. -/
def StoresByte (a : Word) (v : Byte) (g : Flags) (cost : Nat) (s t : State) : Prop :=
  t.mem.read a = v ∧
  (∀ b, b ≠ a → t.mem.read b = s.mem.read b) ∧
  t = { s with mem := t.mem, trace := .memWrite a v :: s.trace, f := g, tstates := s.tstates + cost }

/-- From `s` to `t` the word at `a` becomes `w`, the low byte first, and nothing else changes but tstates. -/
def StoresWord (a w : Word) (cost : Nat) (s t : State) : Prop :=
  t.mem.read a = loByte w ∧ t.mem.read (a + 1) = hiByte w ∧
  (∀ b, b ≠ a → b ≠ a + 1 → t.mem.read b = s.mem.read b) ∧
  t = { s with
    mem := t.mem, trace := .memWrite (a + 1) (hiByte w) :: .memWrite a (loByte w) :: s.trace
    tstates := s.tstates + cost }

/-- From `s` to `t` the word `w` is pushed (the high byte first, at SP - 1), PC becomes `target`, and nothing else
changes but tstates. -/
def PushesWord (w target : Word) (cost : Nat) (s t : State) : Prop :=
  t.mem.read (s.sp - 1) = hiByte w ∧ t.mem.read (s.sp - 2) = loByte w ∧
  (∀ b, b ≠ s.sp - 1 → b ≠ s.sp - 2 → t.mem.read b = s.mem.read b) ∧
  t = { s with
    sp := s.sp - 2, pc := target, mem := t.mem
    trace := .memWrite (s.sp - 2) (loByte w) :: .memWrite (s.sp - 1) (hiByte w) :: s.trace
    tstates := s.tstates + cost }

/-- The state after a pop: the two reads, and SP up by two. -/
def State.afterPop (s : State) : State :=
  { s with
    sp := s.sp + 2
    trace := .memRead (s.sp + 1) (s.mem.read (s.sp + 1)) :: .memRead s.sp (s.mem.read s.sp) :: s.trace }

/-- HL, DE or BC one up or one down. -/
def stepped (up : Bool) (w : Word) : Word := if up then w + 1 else w - 1

/-- The four copy instructions of 46_block.md R390. -/
def blockCopy : Bool → Bool → Instr
  | true, false => .ldi
  | false, false => .ldd
  | true, true => .ldir
  | false, true => .lddr

/-- The four compare instructions of R390. -/
def blockCompare : Bool → Bool → Instr
  | true, false => .cpi
  | false, false => .cpd
  | true, true => .cpir
  | false, true => .cpdr

/-- The four input instructions of R390. -/
def blockInput : Bool → Bool → Instr
  | true, false => .ini
  | false, false => .ind
  | true, true => .inir
  | false, true => .indr

/-- The four output instructions of R390. -/
def blockOutput : Bool → Bool → Instr
  | true, false => .outi
  | false, false => .outd
  | true, true => .otir
  | false, true => .otdr

/-- The cost of a repeating iteration and of any other (R391). -/
def blockCost (again : Bool) : Nat := if again then 21 else 16

/-- PC after an iteration (R391). -/
def blockPC (again : Bool) (pc : Word) : Word := if again then pc - 2 else pc

/-- The bytes of memory at `n` successive addresses, modulo 65536. -/
def bytesAt (m : Memory) (a : Word) : Nat → List Byte
  | 0 => []
  | n + 1 => m.read a :: bytesAt m (a + 1) n

/-- The log of reading them, newest first. -/
def readsAt (m : Memory) (a : Word) : Nat → List BusCall
  | 0 => []
  | n + 1 => readsAt m (a + 1) n ++ [.memRead a (m.read a)]

/-- Does the byte start a two-part opcode (CB, DD, ED, FD)? -/
def startsTwo (b : Byte) : Bool := decide (b = 0xCB) || decide (b = 0xDD) || decide (b = 0xED) || decide (b = 0xFD)

/-- The state when the `n` bytes of an instruction have been fetched: `start` is the PC before, PC is past them, R has
counted once, or twice where the first byte is CB, DD, ED or FD (10_state.md R36, 47_index_prefix.md R431). -/
def State.afterFetch (n : Nat) (s : State) : State :=
  { s with
    start := s.pc
    pc := s.pc + BitVec.ofNat 16 n
    r := if startsTwo (s.mem.read s.pc) then nextR (nextR s.r) else nextR s.r
    trace := readsAt s.mem s.pc n ++ s.trace }

/-- How many bytes executing at the state fetches: to the end of the instruction, or to the byte that leaves the admitted
set (30_encoding.md R97). -/
def State.fetchLength (s : State) : Nat :=
  match decode (bytesAt s.mem s.pc 4) with
  | .instr _ _ rest => 4 - rest.length
  | .unknownOpcode bytes => bytes.length
  | .truncated => 4

/-- The state when only the first `k` of those bytes have been fetched: as `afterFetch`, R counted for the opcode bytes
among them, the first and, after CB, DD, ED or FD, the second (10_state.md R36). -/
def State.partFetch (k : Nat) (s : State) : State :=
  { s.afterFetch k with
    r := if k = 0 then s.r else if k = 1 || !startsTwo (s.mem.read s.pc) then nextR s.r else nextR (nextR s.r) }

/-- From `s` to `t` the calls `calls` completed (newest first), and none of them reported an error (20_memory.md R78,
60_exceptions.md R483; the list of coming errors and the log are the model's own, log 7, 10). -/
def CallsSucceeded (calls : List BusCall) (s t : State) : Prop :=
  t.trace = calls ++ s.trace ∧ ∀ e ∈ s.adapterErrs.take calls.length, e = none

/-- `step` makes no interrupt check and accepts nothing: the mark of EI or DI is up, or IFF1 is clear. -/
def State.noCheck (s : State) : Prop := s.eiDiDelay = true ∨ s.iff1 = false

/-- A core whose step asks the registry, which answers with the source `h`, and whose calls all succeed. -/
structure State.Accepting (s : State) (h : Source) (rest : List (Option Source)) : Prop where
  running : s.fault = none
  noDelay : s.eiDiDelay = false
  enabled : s.iff1 = true
  pending : s.irqs = some h :: rest
  noError : s.adapterErrs = []
  memWf : s.mem.wf = true

/-- The effect of a logged call on memory. -/
def applyCall : BusCall → Memory → Memory
  | .memWrite a v, m => m.write a v
  | .memRead _ _, m => m
  | .ioRead _ _, m => m
  | .ioWrite _ _, m => m
  | .getPendingSource _, m => m
  | .acceptInterrupt _ _, m => m
  | .interruptFinish _, m => m

/-- The memory after a log of calls, its newest call first. -/
def replay (calls : List BusCall) (m : Memory) : Memory := calls.foldr applyCall m

/-- Apply a change of the state to an outcome, the core that a fault carries included. -/
def mapOut (g : State → State) : Out → Out
  | .next s => .next (g s)
  | .fault (.unknownOpcode c) => .fault (.unknownOpcode (g c))
  | .fault (.unsupportedInterruptMode c) => .fault (.unsupportedInterruptMode (g c))
  | .fault (.adapterError c) => .fault (.adapterError (g c))
  | .refused r => .refused r

/-- `s` with the alternate set of `z`. -/
def State.withAlternate (s z : State) : State :=
  { s with
    aAlt := z.aAlt, fAlt := z.fAlt, bAlt := z.bAlt, cAlt := z.cAlt
    dAlt := z.dAlt, eAlt := z.eAlt, hAlt := z.hAlt, lAlt := z.lAlt }

/-- `s` with the index registers of `z`. -/
def State.withIndexRegs (s z : State) : State := { s with ix := z.ix, iy := z.iy }

/-- How many of a byte's eight bits are 1. -/
def onesIn (v : Byte) : Nat := ((List.range 8).filter fun k => v.getLsbD k).length

/-- The byte that holds a two-digit decimal number. -/
def bcd (n : Nat) : Byte := BitVec.ofNat 8 (n / 10 * 16 + n % 10)

end Sys2Proof.Machine

section

open Sys2Proof Sys2Proof.Machine

/-! ### The flag byte and the ALU functions -/

/-- 10_state.md R31: packing and unpacking the flag byte are each other's inverse. -/
def Obligations.FlagByteRoundTrip : Prop :=
  (∀ b : Byte, (Flags.ofByte b).toByte = b) ∧ (∀ f : Flags, Flags.ofByte f.toByte = f)

/-- 40_alu.md R140: add8 is the integer sum narrowed to a byte; C is carry, PV two's-complement overflow, which is the
sign rule; ADD and ADC call it. -/
def Obligations.AddIsIntegerSum : Prop :=
  ∀ (a b : Byte) (cin : Bool) (f : Flags),
    let t := a.toNat + b.toNat + cin.toNat
    let r := (add8 a b cin).1
    let g := (add8 a b cin).2
    r.toNat = t % 256 ∧
    (g.s = true ↔ r.toInt < 0) ∧ (g.z = true ↔ r.toNat = 0) ∧
    (g.h = true ↔ 15 < a.toNat % 16 + b.toNat % 16 + cin.toNat) ∧
    (g.pv = true ↔ r.toInt ≠ a.toInt + b.toInt + (cin.toNat : Int)) ∧
    (g.pv = true ↔ a.getLsbD 7 = b.getLsbD 7 ∧ r.getLsbD 7 ≠ a.getLsbD 7) ∧
    g.n = false ∧ (g.c = true ↔ 255 < t) ∧
    g.y = r.getLsbD 5 ∧ g.x = r.getLsbD 3 ∧
    alu .add a b f = add8 a b false ∧ alu .adc a b f = add8 a b f.c

/-- 40_alu.md R141, R143: sub8 is the integer difference narrowed to a byte; C is borrow, PV two's-complement overflow;
SUB and SBC call it, and CP keeps its flags and A. -/
def Obligations.SubIsIntegerDifference : Prop :=
  ∀ (a b : Byte) (cin : Bool) (f : Flags),
    let t : Int := (a.toNat : Int) - b.toNat - cin.toNat
    let r := (sub8 a b cin).1
    let g := (sub8 a b cin).2
    (r.toNat : Int) = t % 256 ∧
    (g.s = true ↔ r.toInt < 0) ∧ (g.z = true ↔ r.toNat = 0) ∧
    (g.h = true ↔ a.toNat % 16 < b.toNat % 16 + cin.toNat) ∧
    (g.pv = true ↔ r.toInt ≠ a.toInt - b.toInt - (cin.toNat : Int)) ∧
    (g.pv = true ↔ a.getLsbD 7 ≠ b.getLsbD 7 ∧ r.getLsbD 7 ≠ a.getLsbD 7) ∧
    g.n = true ∧ (g.c = true ↔ t < 0) ∧
    g.y = r.getLsbD 5 ∧ g.x = r.getLsbD 3 ∧
    alu .sub a b f = sub8 a b false ∧ alu .sbc a b f = sub8 a b f.c ∧
    alu .cp a b f = (a, (sub8 a b false).2)

/-- 40_alu.md R142: the XOR form of the overflow on the nine-bit integer result. -/
def Obligations.OverflowXorForm : Prop :=
  ∀ (a b : Byte) (cin : Bool),
    let w : Byte → BitVec 9 := fun v => v.setWidth 9
    let sum : BitVec 9 := BitVec.ofNat 9 (a.toNat + b.toNat + cin.toNat)
    let diff : BitVec 9 := BitVec.ofInt 9 ((a.toNat : Int) - b.toNat - cin.toNat)
    ((add8 a b cin).2.pv = ((w a ^^^ w b ^^^ sum).getLsbD 8 ^^ (w a ^^^ w b ^^^ sum).getLsbD 7)) ∧
    ((sub8 a b cin).2.pv = ((w a ^^^ w b ^^^ diff).getLsbD 8 ^^ (w a ^^^ w b ^^^ diff).getLsbD 7))

/-- 40_alu.md R144 to R147: AND, OR and XOR, bit by bit, and their flags; PV is set when the result's count of ones is
even. -/
def Obligations.LogicOperations : Prop :=
  ∀ (op : AluOp) (a b : Byte) (f : Flags), op = .and ∨ op = .or ∨ op = .xor →
    let r := (alu op a b f).1
    let g := (alu op a b f).2
    (∀ k, k < 8 → r.getLsbD k =
      match op with
      | .and => (a.getLsbD k && b.getLsbD k)
      | .or => (a.getLsbD k || b.getLsbD k)
      | _ => (a.getLsbD k ^^ b.getLsbD k)) ∧
    (g.s = true ↔ r.toInt < 0) ∧ (g.z = true ↔ r.toNat = 0) ∧
    g.y = r.getLsbD 5 ∧ g.x = r.getLsbD 3 ∧
    (g.h = true ↔ op = .and) ∧ (g.pv = true ↔ onesIn r % 2 = 0) ∧ g.n = false ∧ g.c = false

/-- 40_alu.md R148, R149: inc8 and dec8; PV is two's-complement overflow, which is the one boundary value, and C is
unaffected. -/
def Obligations.IncDecKeepCarry : Prop :=
  ∀ (v : Byte) (f : Flags),
    let i := inc8 v f
    let d := dec8 v f
    (i.1.toNat = (v.toNat + 1) % 256 ∧ (i.2.s = true ↔ i.1.toInt < 0) ∧ (i.2.z = true ↔ i.1.toNat = 0) ∧
      (i.2.h = true ↔ v.toNat % 16 = 15) ∧ (i.2.pv = true ↔ v.toNat = 127) ∧
      (i.2.pv = true ↔ i.1.toInt ≠ v.toInt + 1) ∧ i.2.n = false ∧ i.2.c = f.c ∧
      i.2.y = i.1.getLsbD 5 ∧ i.2.x = i.1.getLsbD 3) ∧
    ((d.1.toNat : Int) = ((v.toNat : Int) - 1) % 256 ∧ (d.2.s = true ↔ d.1.toInt < 0) ∧ (d.2.z = true ↔ d.1.toNat = 0) ∧
      (d.2.h = true ↔ v.toNat % 16 = 0) ∧ (d.2.pv = true ↔ v.toNat = 128) ∧
      (d.2.pv = true ↔ d.1.toInt ≠ v.toInt - 1) ∧ d.2.n = true ∧ d.2.c = f.c ∧
      d.2.y = d.1.getLsbD 5 ∧ d.2.x = d.1.getLsbD 3)

/-- 40_alu.md R150, R151, R152: the 16-bit sums and difference; H is the carry or borrow at bit 11, X and Y are bits 11
and 13, and ADD keeps S, Z and PV. -/
def Obligations.WordArithmetic : Prop :=
  ∀ (a b : Word) (cin : Bool) (f : Flags),
    let p := add16 a b f
    let q := adc16 a b cin
    let d := sbc16 a b cin
    (p.1.toNat = (a.toNat + b.toNat) % 65536 ∧ (p.2.h = true ↔ 4095 < a.toNat % 4096 + b.toNat % 4096) ∧
      p.2.n = false ∧ (p.2.c = true ↔ 65535 < a.toNat + b.toNat) ∧
      p.2.y = p.1.getLsbD 13 ∧ p.2.x = p.1.getLsbD 11 ∧ p.2.s = f.s ∧ p.2.z = f.z ∧ p.2.pv = f.pv) ∧
    (q.1.toNat = (a.toNat + b.toNat + cin.toNat) % 65536 ∧ (q.2.s = true ↔ q.1.toInt < 0) ∧
      (q.2.z = true ↔ q.1.toNat = 0) ∧ (q.2.h = true ↔ 4095 < a.toNat % 4096 + b.toNat % 4096 + cin.toNat) ∧
      (q.2.pv = true ↔ q.1.toInt ≠ a.toInt + b.toInt + (cin.toNat : Int)) ∧ q.2.n = false ∧
      (q.2.c = true ↔ 65535 < a.toNat + b.toNat + cin.toNat) ∧
      q.2.y = q.1.getLsbD 13 ∧ q.2.x = q.1.getLsbD 11) ∧
    ((d.1.toNat : Int) = ((a.toNat : Int) - b.toNat - cin.toNat) % 65536 ∧ (d.2.s = true ↔ d.1.toInt < 0) ∧
      (d.2.z = true ↔ d.1.toNat = 0) ∧ (d.2.h = true ↔ a.toNat % 4096 < b.toNat % 4096 + cin.toNat) ∧
      (d.2.pv = true ↔ d.1.toInt ≠ a.toInt - b.toInt - (cin.toNat : Int)) ∧ d.2.n = true ∧
      (d.2.c = true ↔ a.toNat < b.toNat + cin.toNat) ∧
      d.2.y = d.1.getLsbD 13 ∧ d.2.x = d.1.getLsbD 11)

/-- 40_alu.md R153: the accumulator rotates as numbers; S, Z and PV are kept. -/
def Obligations.AccumulatorRotates : Prop :=
  ∀ (a : Byte) (f : Flags),
    let n := a.toNat
    let c := f.c.toNat
    (rlca a f).1.toNat = n * 2 % 256 + n / 128 ∧ (rrca a f).1.toNat = n / 2 + n % 2 * 128 ∧
    (rla a f).1.toNat = n * 2 % 256 + c ∧ (rra a f).1.toNat = n / 2 + c * 128 ∧
    ((rlca a f).2.c = true ↔ 127 < n) ∧ ((rla a f).2.c = true ↔ 127 < n) ∧
    ((rrca a f).2.c = true ↔ n % 2 = 1) ∧ ((rra a f).2.c = true ↔ n % 2 = 1) ∧
    (∀ g : Byte → Flags → Byte × Flags, g = rlca ∨ g = rrca ∨ g = rla ∨ g = rra →
      (g a f).2 = { f with
        h := false, n := false, y := (g a f).1.getLsbD 5, x := (g a f).1.getLsbD 3, c := (g a f).2.c })

/-- 40_alu.md R154: the seven CB rotates and shifts as numbers, with their flags. -/
def Obligations.ShiftsAsNumbers : Prop :=
  ∀ (op : RotOp) (v : Byte) (f : Flags),
    let n := v.toNat
    let c := f.c.toNat
    let p := rotate op v f
    p.1.toNat =
      (match op with
      | .rlc => n * 2 % 256 + n / 128
      | .rrc => n / 2 + n % 2 * 128
      | .rl => n * 2 % 256 + c
      | .rr => n / 2 + c * 128
      | .sla => n * 2 % 256
      | .sra => n / 2 + n / 128 * 128
      | .srl => n / 2) ∧
    (p.2.c = true ↔
      match op with
      | .rlc => 127 < n
      | .rl => 127 < n
      | .sla => 127 < n
      | .rrc => n % 2 = 1
      | .rr => n % 2 = 1
      | .sra => n % 2 = 1
      | .srl => n % 2 = 1) ∧
    (p.2.s = true ↔ p.1.toInt < 0) ∧ (p.2.z = true ↔ p.1.toNat = 0) ∧
    p.2.y = p.1.getLsbD 5 ∧ p.2.x = p.1.getLsbD 3 ∧ p.2.h = false ∧
    (p.2.pv = true ↔ onesIn p.1 % 2 = 0) ∧ p.2.n = false

/-- 40_alu.md R155: after an addition or a subtraction of two-digit decimal numbers DAA leaves the decimal result, and
C the decimal carry or borrow. -/
def Obligations.DaaIsDecimal : Prop :=
  ∀ (m n : Nat) (cin : Bool), m < 100 → n < 100 →
    let sum := add8 (bcd m) (bcd n) cin
    let diff := sub8 (bcd m) (bcd n) cin
    (daa sum.1 sum.2).1 = bcd ((m + n + cin.toNat) % 100) ∧
    ((daa sum.1 sum.2).2.c = true ↔ 100 ≤ m + n + cin.toNat) ∧
    (daa diff.1 diff.2).1 = bcd ((m + 100 - n - cin.toNat) % 100) ∧
    ((daa diff.1 diff.2).2.c = true ↔ m < n + cin.toNat)

/-- 40_alu.md R180: the eight condition codes. -/
def Obligations.ConditionCodes : Prop :=
  ∀ f : Flags,
    (cond .nz f = true ↔ f.z = false) ∧ (cond .z f = true ↔ f.z = true) ∧
    (cond .nc f = true ↔ f.c = false) ∧ (cond .c f = true ↔ f.c = true) ∧
    (cond .po f = true ↔ f.pv = false) ∧ (cond .pe f = true ↔ f.pv = true) ∧
    (cond .p f = true ↔ f.s = false) ∧ (cond .m f = true ↔ f.s = true)

/-- 10_state.md R40, R42, R44: a register operand reads back what was written, and a write to one leaves every other
register, the other half of an index register and the other index register alone. -/
def Obligations.RegisterOperands : Prop :=
  (∀ (x : Ctx) (n : Reg8) (v : Byte) (s : State),
    reg8 x n (setReg8 x n v s) = v ∧
    ∀ y r, OtherReg8 x n y r → reg8 y r (setReg8 x n v s) = reg8 y r s) ∧
  (∀ (x : Ctx) (p : Rp) (v : Word) (s : State),
    reg16 x p (setReg16 x p v s) = v ∧
    ∀ y q, OtherRp x p y q → reg16 y q (setReg16 x p v s) = reg16 y q s) ∧
  (∀ (x : Ctx) (s : State),
    regHL x s = mkWord (reg8 x .h s) (reg8 x .l s) ∧ s.bc = mkWord (reg8 x .b s) (reg8 x .c s) ∧
    s.de = mkWord (reg8 x .d s) (reg8 x .e s))

/-! ### Decoding -/

/-- 30_encoding.md R98, 47_index_prefix.md R422: decoding an instruction's encoding gives it back, every operand at
every value, with what follows left over and no pass-through byte. -/
def Obligations.DecodeOfEncode : Prop :=
  ∀ (i : Instr) (rest : List Byte), decode (encode i ++ rest) = .instr i 0 rest

/-- 30_encoding.md R96 to R98, 47_index_prefix.md R425: bytes that decode are the instruction's encoding, or that
encoding after one DD or FD byte that adds 4 T-states. -/
def Obligations.EncodeOfDecode : Prop :=
  ∀ (bs : List Byte) (i : Instr) (passT : Nat) (rest : List Byte), decode bs = .instr i passT rest →
    (passT = 0 ∧ bs = encode i ++ rest) ∨
    (passT = 4 ∧ ∃ b, (b = 0xDD ∨ b = 0xFD) ∧ bs = b :: (encode i ++ rest))

/-- 47_index_prefix.md R425, R426: of the 256 bytes after DD or FD, 165 are pass-through: the unprefixed instruction of
the byte, with 4 T-states more. -/
def Obligations.PassThroughBytes : Prop :=
  (∀ (b op : Byte) (rest : List Byte), b = 0xDD ∨ b = 0xFD → op ∉ ([0xCB, 0xDD, 0xED, 0xFD, 0xEB, 0xD9] : List Byte) →
    usesHL op = false →
    decode (b :: op :: rest) =
      match decode (op :: rest) with
      | .instr i _ rest => .instr i 4 rest
      | .unknownOpcode bytes => .unknownOpcode bytes
      | .truncated => .truncated) ∧
  ((List.range 256).filter fun n =>
    decide (BitVec.ofNat 8 n ∉ ([0xCB, 0xDD, 0xED, 0xFD, 0xEB, 0xD9] : List Byte)) &&
      !(usesHL (BitVec.ofNat 8 n))).length = 165

/-- 30_encoding.md R96, R97, R114, 60_exceptions.md R481: four bytes decode exactly when they start with an admitted
encoding; where they do not, the bytes reported are the first two or, for an indexed CB form, all four. -/
def Obligations.DecoderAdmitsExactly : Prop :=
  ∀ b1 b2 b3 b4 : Byte,
    ((∃ i passT rest, decode [b1, b2, b3, b4] = .instr i passT rest) ↔ admitted [b1, b2, b3, b4] = true) ∧
    (admitted [b1, b2, b3, b4] = false →
      decode [b1, b2, b3, b4] =
        if (b1 = 0xDD ∨ b1 = 0xFD) ∧ b2 = 0xCB then .unknownOpcode [b1, b2, b3, b4] else .unknownOpcode [b1, b2])

/-- Words written out from 30_encoding.md R93 to R95 and 47_index_prefix.md R424, R427, R429, one or more per family. -/
def Obligations.SampleEncodings : Prop :=
  decode [0x78] = .instr .ld_A_B 0 [] ∧
  decode [0x21, 0x34, 0x12] = .instr (.ld_HL_nn 0x1234) 0 [] ∧
  decode [0xC6, 0x03] = .instr (.add_A_n 0x03) 0 [] ∧
  decode [0x38, 0x10] = .instr (.jr_C_e 0x10) 0 [] ∧
  decode [0xC4, 0x00, 0x20] = .instr (.call_NZ_nn 0x2000) 0 [] ∧
  decode [0xEF] = .instr .rst_28H 0 [] ∧
  decode [0xD3, 0xFE] = .instr (.out_pn_A 0xFE) 0 [] ∧
  decode [0xCB, 0x7F] = .instr .bit_7_A 0 [] ∧
  decode [0xED, 0x43, 0x00, 0x40] = .instr (.ld_mnn_BC 0x4000) 0 [] ∧
  decode [0xED, 0x4D] = .instr .reti 0 [] ∧
  decode [0xED, 0xB0] = .instr .ldir 0 [] ∧
  decode [0xDD, 0x36, 0x05, 0xAA] = .instr (.ld_mIXd_n 0x05 0xAA) 0 [] ∧
  decode [0xFD, 0x65] = .instr .ld_IYh_IYl 0 [] ∧
  decode [0xDD, 0x66, 0x02] = .instr (.ld_H_mIXd 0x02) 0 [] ∧
  decode [0xFD, 0xCB, 0xFF, 0xFE] = .instr (.set_7_mIYd 0xFF) 0 [] ∧
  decode [0xDD, 0x76] = .instr .halt 4 [] ∧
  decode [0xCB, 0x30] = .unknownOpcode [0xCB, 0x30] ∧
  decode [0xED, 0x70] = .unknownOpcode [0xED, 0x70] ∧
  decode [0xDD, 0xEB] = .unknownOpcode [0xDD, 0xEB]

/-! ### Reset, the step and its outcomes -/

/-- 10_state.md R48, 70_reset_and_hazards.md R520, R521: what construction and `reset()` leave, for every value of the
parameters; `reset()` keeps the memory and the parameters and makes no call. -/
def Obligations.ResetValues : Prop :=
  (∀ p : Params,
    let s := State.construct p
    s.a = 0xFF ∧ s.b = 0xFF ∧ s.c = 0xFF ∧ s.d = 0xFF ∧ s.e = 0xFF ∧ s.hl = 0xFFFF ∧ s.ix = 0xFFFF ∧ s.iy = 0xFFFF ∧
    s.sp = 0xFFFF ∧ s.pc = p.resetPC ∧ s.f.toByte = 0xFF ∧
    s.aAlt = p.shadowA ∧ s.fAlt.toByte = p.shadowF ∧ s.bAlt = p.shadowB ∧ s.cAlt = p.shadowC ∧
    s.dAlt = p.shadowD ∧ s.eAlt = p.shadowE ∧ s.hAlt = p.shadowH ∧ s.lAlt = p.shadowL ∧
    s.i = 0x00 ∧ s.r = 0x00 ∧ s.iff1 = false ∧ s.iff2 = false ∧ s.im = .im0 ∧ s.eiDiDelay = false ∧
    s.halted = false ∧ s.tstates = 0 ∧ s.inService = [] ∧ s.fault = none) ∧
  (∀ s : State,
    s.hostReset = { State.construct s.params with
      mem := s.mem, ioIn := s.ioIn, irqs := s.irqs, adapterErrs := s.adapterErrs, trace := s.trace, draws := s.draws } ∧
    s.hostReset.params = s.params)

/-- The invariant holds at reset, whatever the parameters. -/
def Obligations.InvAtReset : Prop :=
  State.reset.Inv ∧ ∀ p : Params, (State.construct p).Inv

/-- Every step keeps the invariant: canonical memory, IFF1 only where IFF2, no EI/DI mark on a halted core. It also
keeps the parameters (70_reset_and_hazards.md R522) and leaves no fault record. -/
def Obligations.StepKeepsInv : Prop :=
  ∀ s t : State, s.Inv → step s = .next t → t.Inv ∧ t.params = s.params ∧ t.fault = none

/-- 20_memory.md R69, R72: the memory after a step is the memory before it with the step's logged writes applied in
order; nothing else changes memory. -/
def Obligations.MemoryFollowsTheLog : Prop :=
  ∀ s t : State, step s = .next t → ∃ calls, t.trace = calls ++ s.trace ∧ t.mem = replay calls s.mem

/-- When the bytes at PC decode to an instruction and none of the calls that fetch them reports an error, executing at
that state runs its meaning on the state after the fetch, adds the 4 T-states of a pass-through byte to a next state, and
passes any other outcome on; a step in which no interrupt check happens does just that (30_encoding.md R90, R101). The
list of coming errors is the model's own (log 7). -/
def Obligations.StepRunsDecodedInstruction : Prop :=
  (∀ (s : State) (i : Instr) (passT : Nat) (rest : List Byte),
    decode (bytesAt s.mem s.pc 4) = .instr i passT rest →
    let n := 4 - rest.length
    (∀ e ∈ s.adapterErrs.take n, e = none) →
    executeInstruction s =
      match exec i { s.afterFetch n with adapterErrs := s.adapterErrs.drop n } with
      | .next t => .next { t with tstates := t.tstates + passT }
      | .fault r => .fault r
      | .refused r => .refused r) ∧
  (∀ s : State, s.fault = none → s.halted = false → s.noCheck →
    step s = executeInstruction { s with start := s.pc, eiDiDelay := false })

/-- 30_encoding.md R97, 60_exceptions.md R481: bytes outside the admitted set raise UnknownOpcode with the address of the
first byte and the bytes fetched, where no call that fetches them reports an error; PC is past them, R has counted,
tstates has not, and memory and registers are as before. -/
def Obligations.UnknownOpcodeFaults : Prop :=
  ∀ (s : State) (bytes : List Byte),
    decode (bytesAt s.mem s.pc 4) = .unknownOpcode bytes →
    (∀ e ∈ s.adapterErrs.take bytes.length, e = none) →
    bytes = bytesAt s.mem s.pc bytes.length ∧
    executeInstruction s =
      .fault (.unknownOpcode { s.afterFetch bytes.length with
        adapterErrs := s.adapterErrs.drop bytes.length
        fault := some (.unknownOpcode s.pc bytes) })

/-- 10_state.md R46: while fault is not none the core has no step. -/
def Obligations.FaultedCoreHasNoStep : Prop :=
  ∀ s : State, s.fault ≠ none → step s = .refused .coreFaulted

/-- 60_exceptions.md R500: a halted step in which no interrupt is accepted fetches nothing, counts one in R and adds 4 to
tstates; PC, memory and every register stay. It accepts none where it makes no check, where the registry answers that
nothing is pending, and, by the model's log 6, where its list of answers is used up, as at reset. -/
def Obligations.HaltedStepIdles : Prop :=
  (∀ s : State, s.fault = none → s.halted = true → s.noCheck →
    step s = .next { s with
      start := s.pc, eiDiDelay := false, r := nextR s.r, tstates := s.tstates + 4 }) ∧
  (∀ (s : State) (rest : List (Option Source)), s.fault = none → s.halted = true → s.eiDiDelay = false →
    s.iff1 = true → s.adapterErrs = [] → s.irqs = none :: rest →
    step s = .next { s with
      start := s.pc, irqs := rest, trace := .getPendingSource none :: s.trace
      r := nextR s.r, tstates := s.tstates + 4 }) ∧
  (∀ s : State, s.fault = none → s.halted = true → s.eiDiDelay = false → s.iff1 = true → s.adapterErrs = [] →
    s.irqs = [] →
    step s = .next { s with
      start := s.pc, trace := .getPendingSource none :: s.trace, r := nextR s.r, tstates := s.tstates + 4 })

/-- 60_exceptions.md R491, R492, 10_state.md R35: the check is skipped, and the mark cleared, after EI or DI; with IFF1
clear no registry call is made; with IFF1 set the registry is asked once, and when it returns none the step goes on
with no change. Where the model's list of answers is used up, as at reset, it returns none (the model's log 6). -/
def Obligations.InterruptCheck : Prop :=
  (∀ s : State, s.fault = none → s.eiDiDelay = true →
    step s = haltOrExecute { s with start := s.pc, eiDiDelay := false }) ∧
  (∀ s : State, s.fault = none → s.eiDiDelay = false → s.iff1 = false →
    step s = haltOrExecute { s with start := s.pc }) ∧
  (∀ (s : State) (rest : List (Option Source)), s.fault = none → s.eiDiDelay = false → s.iff1 = true →
    s.adapterErrs = [] → s.irqs = none :: rest →
    step s = haltOrExecute { s with start := s.pc, irqs := rest, trace := .getPendingSource none :: s.trace }) ∧
  (∀ s : State, s.fault = none → s.eiDiDelay = false → s.iff1 = true → s.adapterErrs = [] → s.irqs = [] →
    step s = haltOrExecute { s with start := s.pc, trace := .getPendingSource none :: s.trace })

/-- 60_exceptions.md R493, R494, R495, R498: taking the exception in mode 2. The PC is pushed, the new PC is the word at
`I:v` read after the push, IFF1 and IFF2 are cleared, the halt ends, the source heads the in-service list, R counts
one and tstates 19; nothing else changes, and the step runs the instruction at the new PC. -/
def Obligations.AcceptInMode2 : Prop :=
  ∀ (s : State) (h : Source) (rest : List (Option Source)), s.Accepting h rest → s.im = .im2 →
    let entry := mkWord s.i h.vector
    ∃ t : State, step s = executeInstruction t ∧
      t.mem.read (s.sp - 1) = hiByte s.pc ∧ t.mem.read (s.sp - 2) = loByte s.pc ∧
      (∀ b, b ≠ s.sp - 1 → b ≠ s.sp - 2 → t.mem.read b = s.mem.read b) ∧
      t = { s with
        start := s.pc, irqs := rest, iff1 := false, iff2 := false, halted := false
        sp := s.sp - 2, mem := t.mem, pc := wordAt t.mem entry
        inService := h.handle :: s.inService, r := nextR s.r, tstates := s.tstates + 19
        trace := .memRead (entry + 1) (t.mem.read (entry + 1)) :: .memRead entry (t.mem.read entry) ::
          .memWrite (s.sp - 2) (loByte s.pc) :: .memWrite (s.sp - 1) (hiByte s.pc) ::
          .acceptInterrupt h.handle h.vector :: .getPendingSource (some h.handle) :: s.trace }

/-- 60_exceptions.md R493, R496, R497, R498: taking the exception in mode 1, at 0x0038, and in mode 0, at the target of
the RST byte; each only where the implementation supports the mode, for 13 T-states. -/
def Obligations.AcceptInModes0And1 : Prop :=
  ∀ (s : State) (h : Source) (rest : List (Option Source)), s.Accepting h rest →
    (s.im = .im1 ∧ s.params.im1 = true) ∨ (s.im = .im0 ∧ s.params.im0 = true ∧ h.vector &&& 0xC7 = 0xC7) →
    let target : Word := if s.im = .im1 then 0x0038 else zext16 (h.vector &&& 0x38)
    ∃ t : State, step s = executeInstruction t ∧
      t.mem.read (s.sp - 1) = hiByte s.pc ∧ t.mem.read (s.sp - 2) = loByte s.pc ∧
      (∀ b, b ≠ s.sp - 1 → b ≠ s.sp - 2 → t.mem.read b = s.mem.read b) ∧
      t = { s with
        start := s.pc, irqs := rest, iff1 := false, iff2 := false, halted := false
        sp := s.sp - 2, mem := t.mem, pc := target
        inService := h.handle :: s.inService, r := nextR s.r, tstates := s.tstates + 13
        trace := .memWrite (s.sp - 2) (loByte s.pc) :: .memWrite (s.sp - 1) (hiByte s.pc) ::
          .acceptInterrupt h.handle h.vector :: .getPendingSource (some h.handle) :: s.trace }

/-- 60_exceptions.md R482, R497: a mode outside P_IM_SUPPORTED faults before any state change and before the source is
called; in mode 0 a byte that is no RST faults with IFF1 and IFF2 cleared and the source called, nothing pushed and PC
unchanged. -/
def Obligations.AcceptanceFaults : Prop :=
  (∀ (s : State) (h : Source) (rest : List (Option Source)), s.Accepting h rest → s.params.supports s.im = false →
    step s = .fault (.unsupportedInterruptMode { s with
      start := s.pc, irqs := rest, trace := .getPendingSource (some h.handle) :: s.trace
      fault := some (.unsupportedInterruptMode s.pc s.im none) })) ∧
  (∀ (s : State) (h : Source) (rest : List (Option Source)), s.Accepting h rest → s.im = .im0 →
    s.params.im0 = true → h.vector &&& 0xC7 ≠ 0xC7 →
    step s = .fault (.unsupportedInterruptMode { s with
      start := s.pc, irqs := rest, iff1 := false, iff2 := false
      trace := .acceptInterrupt h.handle h.vector :: .getPendingSource (some h.handle) :: s.trace
      fault := some (.unsupportedInterruptMode s.pc .im0 (some h.vector)) }))

/-- 60_exceptions.md R483, R484, 20_memory.md R78: an error reported by a call that fetches an instruction's byte raises
AdapterError, which names the instruction, the memory adapter, readByte and the byte's address; the bytes before it have
been fetched, and nothing else has changed. Where it is the first call of a step that makes no check, PC and R are as
before. Which call reports an error is the model's list (log 7). -/
def Obligations.FetchErrorFaults : Prop :=
  (∀ (s : State) (err : Nat) (es : List (Option Nat)), s.fault = none → s.halted = false → s.noCheck →
    s.adapterErrs = some err :: es →
    step s = .fault (.adapterError { s with
      start := s.pc, eiDiDelay := false, adapterErrs := es
      fault := some (.adapterError s.pc .mem .readByte (some s.pc) err) })) ∧
  (∀ (s : State) (k err : Nat) (es : List (Option Nat)), k < s.fetchLength →
    (∀ e ∈ s.adapterErrs.take k, e = none) → s.adapterErrs.drop k = some err :: es →
    executeInstruction s = .fault (.adapterError { s.partFetch k with
      adapterErrs := es
      fault := some (.adapterError s.pc .mem .readByte (some (s.pc + BitVec.ofNat 16 k)) err) }))

/-- 60_exceptions.md R483, R484, R485, 20_memory.md R78: executing an instruction is never refused. Where it answers a next
state, every call it made is in the log and none reported an error; where it faults, the first error that a call reported
raised AdapterError, whose record names the instruction and that error, the calls before it are in the log, and tstates
has not counted the instruction. A step that answers a next state made no call that reported an error either, in its
check, its fetch or its instruction. The list of coming errors and the log are the model's own (log 7, 10). -/
def Obligations.ExecFaultsOnlyByAdapter : Prop :=
  (∀ (i : Instr) (s : State),
    (∀ r, exec i s ≠ .refused r) ∧
    (∀ t, exec i s = .next t →
      ∃ calls, CallsSucceeded calls s t ∧ t.adapterErrs = s.adapterErrs.drop calls.length) ∧
    (∀ f, exec i s = .fault f → ∃ c ad call addr err calls,
      f = .adapterError c ∧ c.fault = some (.adapterError s.start ad call addr err) ∧
      CallsSucceeded calls s c ∧ s.adapterErrs.drop calls.length = some err :: c.adapterErrs ∧
      c.tstates = s.tstates)) ∧
  (∀ s t : State, step s = .next t →
    ∃ calls, CallsSucceeded calls s t ∧ t.adapterErrs = s.adapterErrs.drop calls.length)

/-- 60_exceptions.md R485, R503: where no call reports an error every instruction completes, in every state, and adds
between 4 and 23 T-states (70_reset_and_hazards.md R540, R541; log 13 for the indexed CB forms). -/
def Obligations.EveryInstructionCompletes : Prop :=
  ∀ (i : Instr) (s : State), (∀ e ∈ s.adapterErrs, e = none) →
    ∃ t, exec i s = .next t ∧ s.tstates + 4 ≤ t.tstates ∧ t.tstates ≤ s.tstates + 23

/-- 10_state.md R27, R28, R33 to R35, R37, R47: which instructions write the control state: I by LD I,A, R by LD R,A, IM by
IM n, IFF1 and IFF2 by DI and EI, IFF1 also by RETN and RETI, the EI/DI mark by EI and DI, halted by HALT, the
in-service list by RETI. None writes the parameters, the registry's answers or the fault record. -/
def Obligations.ControlStateWriters : Prop :=
  ∀ (i : Instr) (s t : State), exec i s = .next t →
    (i ≠ .ld_I_A → t.i = s.i) ∧ (i ≠ .ld_R_A → t.r = s.r) ∧
    (i ≠ .im_0 → i ≠ .im_1 → i ≠ .im_2 → t.im = s.im) ∧
    (i ≠ .di → i ≠ .ei → t.iff2 = s.iff2 ∧ t.eiDiDelay = s.eiDiDelay) ∧
    (i ≠ .di → i ≠ .ei → i ≠ .retn → i ≠ .reti → t.iff1 = s.iff1) ∧
    (i ≠ .halt → t.halted = s.halted) ∧ (i ≠ .reti → t.inService = s.inService) ∧
    t.params = s.params ∧ t.irqs = s.irqs ∧ t.fault = s.fault ∧ t.start = s.start

/-- 10_state.md R23: no instruction but EX AF,AF' and EXX reads or writes an alternate register: with another alternate set
it does the same and leaves that set. -/
def Obligations.AlternateSetUntouched : Prop :=
  ∀ (i : Instr) (s z : State), i ≠ .ex_AF_AFs → i ≠ .exx →
    exec i (s.withAlternate z) = mapOut (fun c => c.withAlternate z) (exec i s)

/-- 10_state.md R24: an instruction whose encoding starts with neither DD nor FD reads and writes neither IX nor IY. -/
def Obligations.IndexRegistersUntouched : Prop :=
  ∀ (i : Instr) (s z : State), (encode i).head? ≠ some 0xDD → (encode i).head? ≠ some 0xFD →
    exec i (s.withIndexRegs z) = mapOut (fun c => c.withIndexRegs z) (exec i s)

/-- 10_state.md R28, R36, R38: a step adds at least 4 to tstates. R bit 7 changes only by LD R,A, to A's bit 7: the
interrupt check and an acceptance in it, a halted step, and every other instruction, wherever its fetch and its calls
succeed, keep it. R's count is modulo 128 with bit 7 kept. -/
def Obligations.StepClocks : Prop :=
  (∀ s t : State, step s = .next t →
    s.tstates + 4 ≤ t.tstates ∧ (t.r.getLsbD 7 ≠ s.r.getLsbD 7 → t.r = t.a)) ∧
  (∀ (s t : State) (k : State → Out), interruptCheck s k = .next t →
    ∃ u, k u = .next t ∧ u.r.getLsbD 7 = s.r.getLsbD 7) ∧
  (∀ s t : State, s.halted = true → haltOrExecute s = .next t → t.r.getLsbD 7 = s.r.getLsbD 7) ∧
  (∀ (s t : State) (i : Instr) (passT : Nat) (rest : List Byte), s.halted = false →
    decode (bytesAt s.mem s.pc 4) = .instr i passT rest → i ≠ .ld_R_A → haltOrExecute s = .next t →
    t.r.getLsbD 7 = s.r.getLsbD 7) ∧
  (∀ r : Byte, (nextR r).getLsbD 7 = r.getLsbD 7 ∧ (nextR r).toNat % 128 = (r.toNat + 1) % 128)

/-! ### What each family does, with its frame -/

/-- 42_base_x1_x2.md R250, 41_base_x0.md R220, 47_index_prefix.md R423: LD r,r' and LD r,n, index halves included. -/
def Obligations.RegisterLoads : Prop :=
  (∀ (x : Ctx) (dst src : Reg8) (s : State), ∃ t, exec (mkLdRR x dst src) s = .next t ∧
    WritesReg8 x dst (reg8 x src s) s.f (4 + halfT x (dst.isHL || src.isHL)) s t) ∧
  (∀ (x : Ctx) (dst : Reg8) (n : Byte) (s : State), ∃ t, exec (mkLdRN x dst n) s = .next t ∧
    WritesReg8 x dst n s.f (7 + halfT x dst.isHL) s t)

/-- 41_base_x0.md R206, R216, R217, 43_base_x3.md R285: LD rp,nn, INC rp, DEC rp and LD SP,HL, none with a flag. -/
def Obligations.PairLoadsAndCounts : Prop :=
  (∀ (x : Ctx) (p : Rp) (nn : Word) (s : State), ∃ t, exec (mkLdRpNn x p nn) s = .next t ∧
    WritesRp x p nn s.f (10 + halfT x p.isHL) s t) ∧
  (∀ (x : Ctx) (p : Rp) (s : State), ∃ t, exec (mkIncRp x p) s = .next t ∧
    WritesRp x p (reg16 x p s + 1) s.f (6 + halfT x p.isHL) s t) ∧
  (∀ (x : Ctx) (p : Rp) (s : State), ∃ t, exec (mkDecRp x p) s = .next t ∧
    WritesRp x p (reg16 x p s - 1) s.f (6 + halfT x p.isHL) s t) ∧
  (∀ (x : Ctx) (s : State), ∃ t, exec (mkLdSpHl x) s = .next t ∧
    WritesRp .none .sp (regHL x s) s.f (6 + ctxT x) s t)

/-- 42_base_x1_x2.md R251, 41_base_x0.md R212 to R215, 45_ed_prefix.md R355: loads from memory, one read call a byte, the
low byte first. -/
def Obligations.MemoryLoads : Prop :=
  ∀ s : State, s.adapterErrs = [] →
    (∀ (x : Ctx) (dst : Reg8) (d : Byte), ∃ t, exec (mkLdRM x dst d) s = .next t ∧
      WritesReg8 .none dst (s.mem.read (ea x d s)) s.f (memT x 7 19) (s.afterRead (ea x d s)) t) ∧
    (∃ t, exec .ld_A_mBC s = .next t ∧ WritesReg8 .none .a (s.mem.read s.bc) s.f 7 (s.afterRead s.bc) t) ∧
    (∃ t, exec .ld_A_mDE s = .next t ∧ WritesReg8 .none .a (s.mem.read s.de) s.f 7 (s.afterRead s.de) t) ∧
    (∀ nn, ∃ t, exec (.ld_A_mnn nn) s = .next t ∧ WritesReg8 .none .a (s.mem.read nn) s.f 13 (s.afterRead nn) t) ∧
    (∀ (x : Ctx) (nn : Word), ∃ t, exec (mkLdHlNn x nn) s = .next t ∧
      WritesRp x .hl (wordAt s.mem nn) s.f (16 + ctxT x) (s.afterRead2 nn) t) ∧
    (∀ (p : Rp) (nn : Word), ∃ t, exec (mkLdRpNnMem p nn) s = .next t ∧
      WritesRp .none p (wordAt s.mem nn) s.f 20 (s.afterRead2 nn) t)

/-- 42_base_x1_x2.md R252, 41_base_x0.md R208 to R211, R221, 45_ed_prefix.md R354: stores, with every byte of memory but the
stored ones as before. -/
def Obligations.MemoryStores : Prop :=
  ∀ s : State, s.adapterErrs = [] → s.mem.wf = true →
    (∀ (x : Ctx) (src : Reg8) (d : Byte), ∃ t, exec (mkLdMR x src d) s = .next t ∧
      StoresByte (ea x d s) (reg8 .none src s) s.f (memT x 7 19) s t) ∧
    (∀ (x : Ctx) (d n : Byte), ∃ t, exec (mkLdMN x d n) s = .next t ∧
      StoresByte (ea x d s) n s.f (memT x 10 19) s t) ∧
    (∃ t, exec .ld_mBC_A s = .next t ∧ StoresByte s.bc s.a s.f 7 s t) ∧
    (∃ t, exec .ld_mDE_A s = .next t ∧ StoresByte s.de s.a s.f 7 s t) ∧
    (∀ nn, ∃ t, exec (.ld_mnn_A nn) s = .next t ∧ StoresByte nn s.a s.f 13 s t) ∧
    (∀ (x : Ctx) (nn : Word), ∃ t, exec (mkLdNnHl x nn) s = .next t ∧
      StoresWord nn (regHL x s) (16 + ctxT x) s t) ∧
    (∀ (p : Rp) (nn : Word), ∃ t, exec (mkLdNnRp p nn) s = .next t ∧ StoresWord nn (reg16 .none p s) 20 s t)

/-- 42_base_x1_x2.md R254 to R262: the eight ALU operations on a register or index half, the memory operand and an
immediate; only A and F change. -/
def Obligations.AluInstructions : Prop :=
  (∀ (x : Ctx) (op : AluOp) (src : Reg8) (s : State), ∃ t, exec (mkAluR x op src) s = .next t ∧
    WritesReg8 .none .a (alu op s.a (reg8 x src s) s.f).1 (alu op s.a (reg8 x src s) s.f).2
      (4 + halfT x src.isHL) s t) ∧
  (∀ (op : AluOp) (n : Byte) (s : State), ∃ t, exec (mkAluN op n) s = .next t ∧
    WritesReg8 .none .a (alu op s.a n s.f).1 (alu op s.a n s.f).2 7 s t) ∧
  (∀ (x : Ctx) (op : AluOp) (d : Byte) (s : State), s.adapterErrs = [] →
    let v := s.mem.read (ea x d s)
    ∃ t, exec (mkAluM x op d) s = .next t ∧
      WritesReg8 .none .a (alu op s.a v s.f).1 (alu op s.a v s.f).2 (memT x 7 19) (s.afterRead (ea x d s)) t)

/-- 41_base_x0.md R218, R219: INC and DEC of a register, an index half and the memory operand, read then written at one
address. -/
def Obligations.IncDecInstructions : Prop :=
  (∀ (x : Ctx) (n : Reg8) (s : State),
    (∃ t, exec (mkIncR x n) s = .next t ∧
      WritesReg8 x n (inc8 (reg8 x n s) s.f).1 (inc8 (reg8 x n s) s.f).2 (4 + halfT x n.isHL) s t) ∧
    (∃ t, exec (mkDecR x n) s = .next t ∧
      WritesReg8 x n (dec8 (reg8 x n s) s.f).1 (dec8 (reg8 x n s) s.f).2 (4 + halfT x n.isHL) s t)) ∧
  (∀ (x : Ctx) (d : Byte) (s : State), s.adapterErrs = [] → s.mem.wf = true →
    let v := s.mem.read (ea x d s)
    (∃ t, exec (mkIncM x d) s = .next t ∧
      StoresByte (ea x d s) (inc8 v s.f).1 (inc8 v s.f).2 (memT x 11 23) (s.afterRead (ea x d s)) t) ∧
    (∃ t, exec (mkDecM x d) s = .next t ∧
      StoresByte (ea x d s) (dec8 v s.f).1 (dec8 v s.f).2 (memT x 11 23) (s.afterRead (ea x d s)) t))

/-- 45_ed_prefix.md R360, R368, R369: NEG is 0 - A; RRD and RLD turn the three nibbles of A and the byte at HL, A's high
nibble kept. -/
def Obligations.NegAndDigitRotates : Prop :=
  (∀ s : State, ∃ t, exec .neg s = .next t ∧
    WritesReg8 .none .a (sub8 0 s.a false).1 (sub8 0 s.a false).2 8 s t) ∧
  (∀ (s : State) (right : Bool), s.adapterErrs = [] → s.mem.wf = true →
    let m := (s.mem.read s.hl).toNat
    ∃ t, exec (if right then .rrd else .rld) s = .next t ∧
      (t.mem.read s.hl).toNat = (if right then s.a.toNat % 16 * 16 + m / 16 else m % 16 * 16 + s.a.toNat % 16) ∧
      t.a.toNat = s.a.toNat / 16 * 16 + (if right then m % 16 else m / 16) ∧
      (∀ b, b ≠ s.hl → t.mem.read b = s.mem.read b) ∧
      t = { s with
        a := t.a, mem := t.mem, tstates := s.tstates + 18
        trace := .memWrite s.hl (t.mem.read s.hl) :: .memRead s.hl (s.mem.read s.hl) :: s.trace
        f := { s.f with
          s := t.a.getLsbD 7, z := decide (t.a = 0), y := t.a.getLsbD 5, h := false, x := t.a.getLsbD 3
          pv := decide (onesIn t.a % 2 = 0), n := false } })

/-- 41_base_x0.md R207, 45_ed_prefix.md R352, R353, 47_index_prefix.md R421: ADD HL,rp under every index context, ADC HL,rp and
SBC HL,rp. -/
def Obligations.PairArithmetic : Prop :=
  (∀ (x : Ctx) (p : Rp) (s : State), ∃ t, exec (mkAddHl x p) s = .next t ∧
    WritesRp x .hl (add16 (regHL x s) (reg16 x p s) s.f).1 (add16 (regHL x s) (reg16 x p s) s.f).2
      (11 + ctxT x) s t) ∧
  (∀ (p : Rp) (s : State), ∃ t, exec (mkAdcHl p) s = .next t ∧
    WritesRp .none .hl (adc16 s.hl (reg16 .none p s) s.f.c).1 (adc16 s.hl (reg16 .none p s) s.f.c).2 15 s t) ∧
  (∀ (p : Rp) (s : State), ∃ t, exec (mkSbcHl p) s = .next t ∧
    WritesRp .none .hl (sbc16 s.hl (reg16 .none p s) s.f.c).1 (sbc16 s.hl (reg16 .none p s) s.f.c).2 15 s t)

/-- 41_base_x0.md R222 to R229: the accumulator rotates, DAA, CPL, SCF and CCF. X and Y of SCF and CCF are whatever the
free bits are: the statement holds for every value of them. -/
def Obligations.AccumulatorInstructions : Prop :=
  ∀ s : State,
    (∃ t, exec .rlca s = .next t ∧ WritesReg8 .none .a (rlca s.a s.f).1 (rlca s.a s.f).2 4 s t) ∧
    (∃ t, exec .rrca s = .next t ∧ WritesReg8 .none .a (rrca s.a s.f).1 (rrca s.a s.f).2 4 s t) ∧
    (∃ t, exec .rla s = .next t ∧ WritesReg8 .none .a (rla s.a s.f).1 (rla s.a s.f).2 4 s t) ∧
    (∃ t, exec .rra s = .next t ∧ WritesReg8 .none .a (rra s.a s.f).1 (rra s.a s.f).2 4 s t) ∧
    (∃ t, exec .daa s = .next t ∧ WritesReg8 .none .a (daa s.a s.f).1 (daa s.a s.f).2 4 s t) ∧
    (∃ t, exec .cpl s = .next t ∧ t.a.toNat = 255 - s.a.toNat ∧
      WritesReg8 .none .a t.a { s.f with h := true, n := true, y := t.a.getLsbD 5, x := t.a.getLsbD 3 } 4 s t) ∧
    (∃ t, exec .scf s = .next t ∧
      t = { s with
        f := { s.f with c := true, h := false, n := false, x := t.f.x, y := t.f.y }
        tstates := s.tstates + 4, draws := s.draws + 2 }) ∧
    (∃ t, exec .ccf s = .next t ∧
      t = { s with
        f := { s.f with c := !s.f.c, h := s.f.c, n := false, x := t.f.x, y := t.f.y }
        tstates := s.tstates + 4, draws := s.draws + 2 })

/-- 41_base_x0.md R202 to R205, 43_base_x3.md R284, R286, R287, 70_reset_and_hazards.md R541: the jumps and their costs; a taken
relative jump adds the signed offset to the PC past the instruction. Only PC, tstates and DJNZ's B change. -/
def Obligations.JumpInstructions : Prop :=
  ∀ s : State,
    (∀ nn, exec (.jp_nn nn) s = .next { s with pc := nn, tstates := s.tstates + 10 }) ∧
    (∀ (c : Cond) (nn : Word), exec (mkJpCc c nn) s =
      .next { s with pc := if cond c s.f then nn else s.pc, tstates := s.tstates + 10 }) ∧
    (∀ x, exec (mkJpHl x) s = .next { s with pc := regHL x s, tstates := s.tstates + (4 + ctxT x) }) ∧
    (∀ e, exec (.jr_e e) s = .next { s with pc := s.pc + sext16 e, tstates := s.tstates + 12 }) ∧
    (∀ (c : JrCond) (e : Byte), exec (mkJrCc c e) s =
      .next { s with
        pc := if cond c.toCond s.f then s.pc + sext16 e else s.pc
        tstates := s.tstates + if cond c.toCond s.f then 12 else 7 }) ∧
    (∀ e, exec (.djnz_e e) s =
      .next { s with
        b := s.b - 1
        pc := if s.b = 1 then s.pc else s.pc + sext16 e
        tstates := s.tstates + if s.b = 1 then 8 else 13 })

/-- 43_base_x3.md R294, R296, R297, 20_memory.md R66: CALL, CALL cc and RST push the PC past the instruction; a CALL not taken
makes no memory access. -/
def Obligations.CallInstructions : Prop :=
  ∀ s : State, s.adapterErrs = [] → s.mem.wf = true →
    (∀ nn, ∃ t, exec (.call_nn nn) s = .next t ∧ PushesWord s.pc nn 17 s t) ∧
    (∀ (c : Cond) (nn : Word),
      (cond c s.f = true → ∃ t, exec (mkCallCc c nn) s = .next t ∧ PushesWord s.pc nn 17 s t) ∧
      (cond c s.f = false → exec (mkCallCc c nn) s = .next { s with tstates := s.tstates + 10 })) ∧
    (∀ y : Idx8, ∃ t, exec (mkRst y) s = .next t ∧
      PushesWord s.pc (BitVec.ofNat 16 (y.toNat * 8)) 11 s t)

/-- 43_base_x3.md R280, R282, 45_ed_prefix.md R361, R362, 20_memory.md R67: the returns pop PC; RETN and RETI copy IFF2 to
IFF1; RETI then removes the head of the in-service list and finishes it, and with an empty list makes no call. -/
def Obligations.ReturnInstructions : Prop :=
  ∀ s : State, s.adapterErrs = [] →
    exec .ret s = .next { s.afterPop with pc := wordAt s.mem s.sp, tstates := s.tstates + 10 } ∧
    (∀ c : Cond, exec (mkRetCc c) s =
      if cond c s.f then .next { s.afterPop with pc := wordAt s.mem s.sp, tstates := s.tstates + 11 }
      else .next { s with tstates := s.tstates + 5 }) ∧
    exec .retn s =
      .next { s.afterPop with pc := wordAt s.mem s.sp, iff1 := s.iff2, tstates := s.tstates + 14 } ∧
    (s.inService = [] → exec .reti s =
      .next { s.afterPop with pc := wordAt s.mem s.sp, iff1 := s.iff2, tstates := s.tstates + 14 }) ∧
    (∀ (h : Nat) (rest : List Nat), s.inService = h :: rest → exec .reti s =
      .next { s.afterPop with
        pc := wordAt s.mem s.sp, iff1 := s.iff2, tstates := s.tstates + 14
        inService := rest, trace := .interruptFinish h :: s.afterPop.trace })

/-- 43_base_x3.md R281, R295, 10_state.md R31, R45: PUSH and POP of BC, DE, HL, IX, IY and AF; POP AF writes all eight flags,
and a POP into one pair leaves the others. -/
def Obligations.PushAndPop : Prop :=
  (∀ (x : Ctx) (p : Rp2) (s : State), s.adapterErrs = [] → s.mem.wf = true →
    ∃ t, exec (mkPush x p) s = .next t ∧
      PushesWord (reg16af x p s) s.pc (11 + halfT x p.isHL) s t) ∧
  (∀ (x : Ctx) (p : Rp2) (s : State), s.adapterErrs = [] →
    ∃ t, exec (mkPop x p) s = .next t ∧ reg16af x p t = wordAt s.mem s.sp ∧
      (∀ y q, q ≠ p ∨ (q.isHL = true ∧ y ≠ x) → reg16af y q t = reg16af y q s) ∧
      t = { s.afterPop with
        a := t.a, f := t.f, b := t.b, c := t.c, d := t.d, e := t.e, h := t.h, l := t.l, ix := t.ix, iy := t.iy
        tstates := s.tstates + (10 + halfT x p.isHL) })

/-- A POP right after a PUSH of the same pair gives the pair and SP back, AF's eight flags included (20_memory.md R66,
R67, 10_state.md R31). -/
def Obligations.PopUndoesPush : Prop :=
  ∀ (x : Ctx) (p : Rp2) (s t u : State), s.mem.wf = true →
    exec (mkPush x p) s = .next t → exec (mkPop x p) t = .next u →
    reg16af x p u = reg16af x p s ∧ u.sp = s.sp ∧ ∀ y q, reg16af y q u = reg16af y q s

/-- 41_base_x0.md R201, 43_base_x3.md R283, R290, R291: the exchanges; EX (SP),HL keeps SP and writes the high byte
first. -/
def Obligations.ExchangeInstructions : Prop :=
  (∀ s : State,
    exec .ex_AF_AFs s =
      .next { s with a := s.aAlt, f := s.fAlt, aAlt := s.a, fAlt := s.f, tstates := s.tstates + 4 } ∧
    exec .exx s =
      .next { s with
        b := s.bAlt, c := s.cAlt, d := s.dAlt, e := s.eAlt, h := s.hAlt, l := s.lAlt
        bAlt := s.b, cAlt := s.c, dAlt := s.d, eAlt := s.e, hAlt := s.h, lAlt := s.l
        tstates := s.tstates + 4 } ∧
    exec .ex_DE_HL s =
      .next { s with d := s.h, e := s.l, h := s.d, l := s.e, tstates := s.tstates + 4 }) ∧
  (∀ (x : Ctx) (s : State), s.adapterErrs = [] → s.mem.wf = true →
    ∃ t, exec (mkExSp x) s = .next t ∧ regHL x t = wordAt s.mem s.sp ∧
      wordAt t.mem s.sp = regHL x s ∧
      (∀ b, b ≠ s.sp → b ≠ s.sp + 1 → t.mem.read b = s.mem.read b) ∧
      (∀ y, y ≠ x → regHL y t = regHL y s) ∧
      t = { s with
        h := t.h, l := t.l, ix := t.ix, iy := t.iy, mem := t.mem, tstates := s.tstates + (19 + ctxT x)
        trace := .memWrite s.sp (loByte (regHL x s)) :: .memWrite (s.sp + 1) (hiByte (regHL x s)) ::
          .memRead (s.sp + 1) (s.mem.read (s.sp + 1)) :: .memRead s.sp (s.mem.read s.sp) :: s.trace })

/-- 44_cb_prefix.md R330 to R337, 47_index_prefix.md R429: the CB rotates and shifts on a register, (HL), (IX+d) and (IY+d). The
indexed cost is R429's 23, or 15 where the parameter takes R540's DD CB table (log 13). -/
def Obligations.RotateInstructions : Prop :=
  (∀ (op : RotOp) (n : Reg8) (s : State), ∃ t, exec (mkRotR op n) s = .next t ∧
    WritesReg8 .none n (rotate op (reg8 .none n s) s.f).1 (rotate op (reg8 .none n s) s.f).2 8 s t) ∧
  (∀ (x : Ctx) (op : RotOp) (d : Byte) (s : State), s.adapterErrs = [] → s.mem.wf = true →
    let v := s.mem.read (ea x d s)
    ∃ t, exec (mkRotM x op d) s = .next t ∧
      StoresByte (ea x d s) (rotate op v s.f).1 (rotate op v s.f).2 (cbMemT x s.params 15 23) (s.afterRead (ea x d s)) t)

/-- 40_alu.md R156, 44_cb_prefix.md R338, 47_index_prefix.md R429: BIT sets Z and PV from the tested bit and S for bit 7, keeps C and
writes nothing; X and Y come from the register, from the address for the indexed forms, and are free for (HL). The
indexed cost is R429's 20, or 12 where the parameter takes R540's DD CB table (log 13). -/
def Obligations.BitTestInstructions : Prop :=
  (∀ (b : Idx8) (n : Reg8) (s : State),
    let v := reg8 .none n s
    exec (mkBitR b n) s =
      .next { s with
        f := { s.f with
          s := decide (b = .i7) && v.getLsbD 7, z := !v.getLsbD b.toNat, pv := !v.getLsbD b.toNat
          h := true, n := false, y := v.getLsbD 5, x := v.getLsbD 3 }
        tstates := s.tstates + 8 }) ∧
  (∀ (x : Ctx) (b : Idx8) (d : Byte) (s : State), s.adapterErrs = [] →
    let v := s.mem.read (ea x d s)
    ∃ t, exec (mkBitM x b d) s = .next t ∧
      (x ≠ .none → t.f.y = (ea x d s).getLsbD 13 ∧ t.f.x = (ea x d s).getLsbD 11) ∧
      t = { s.afterRead (ea x d s) with
        f := { s.f with
          s := decide (b = .i7) && v.getLsbD 7, z := !v.getLsbD b.toNat, pv := !v.getLsbD b.toNat
          h := true, n := false, y := t.f.y, x := t.f.x }
        draws := if x = .none then s.draws + 2 else s.draws
        tstates := s.tstates + cbMemT x s.params 12 20 })

/-- 44_cb_prefix.md R339, R340, 47_index_prefix.md R429: RES clears and SET sets one bit and keeps the other seven; no flag
changes, and the memory forms write whatever the bit was. The indexed cost is R429's
23, or 15 where the parameter takes R540's DD CB table (log 13). -/
def Obligations.BitWriteInstructions : Prop :=
  (∀ (b : Idx8) (v : Byte) (k : Nat), k < 8 →
    (resBit b v).getLsbD k = (if k = b.toNat then false else v.getLsbD k) ∧
    (setBit b v).getLsbD k = (if k = b.toNat then true else v.getLsbD k)) ∧
  (∀ (b : Idx8) (n : Reg8) (s : State),
    (∃ t, exec (mkResR b n) s = .next t ∧ WritesReg8 .none n (resBit b (reg8 .none n s)) s.f 8 s t) ∧
    (∃ t, exec (mkSetR b n) s = .next t ∧ WritesReg8 .none n (setBit b (reg8 .none n s)) s.f 8 s t)) ∧
  (∀ (x : Ctx) (b : Idx8) (d : Byte) (s : State), s.adapterErrs = [] → s.mem.wf = true →
    let v := s.mem.read (ea x d s)
    (∃ t, exec (mkResM x b d) s = .next t ∧
      StoresByte (ea x d s) (resBit b v) s.f (cbMemT x s.params 15 23) (s.afterRead (ea x d s)) t) ∧
    (∃ t, exec (mkSetM x b d) s = .next t ∧
      StoresByte (ea x d s) (setBit b v) s.f (cbMemT x s.params 15 23) (s.afterRead (ea x d s)) t))

/-- 43_base_x3.md R288, R289, 45_ed_prefix.md R350, R351: IN and OUT make one call of the port A:n or B:C; IN r,(C) sets the
flags from the byte and keeps C, IN A,(n) and OUT set none. The byte read is the input list's next (the model's
log 5); where the list is empty it is any byte. -/
def Obligations.InOutInstructions : Prop :=
  (∀ (s : State) (n : Byte), s.adapterErrs = [] →
    exec (.out_pn_A n) s =
      .next { s with trace := .ioWrite (mkWord s.a n) s.a :: s.trace, tstates := s.tstates + 11 }) ∧
  (∀ (s : State) (r : Reg8), s.adapterErrs = [] →
    exec (mkOutR r) s =
      .next { s with trace := .ioWrite s.bc (reg8 .none r s) :: s.trace, tstates := s.tstates + 12 }) ∧
  (∀ (s : State) (n : Byte), s.adapterErrs = [] →
    ∃ v t, (∀ w ws, s.ioIn = w :: ws → v = w) ∧ exec (.in_A_pn n) s = .next t ∧
      WritesReg8 .none .a v s.f 11
        { s with
          ioIn := s.ioIn.tail, draws := if s.ioIn = [] then s.draws + 1 else s.draws
          trace := .ioRead (mkWord s.a n) v :: s.trace } t) ∧
  (∀ (s : State) (r : Reg8), s.adapterErrs = [] →
    ∃ v t, (∀ w ws, s.ioIn = w :: ws → v = w) ∧ exec (mkInR r) s = .next t ∧
      WritesReg8 .none r v
        { s.f with
          s := v.getLsbD 7, z := decide (v = 0), y := v.getLsbD 5, h := false, x := v.getLsbD 3
          pv := decide (onesIn v % 2 = 0), n := false } 12
        { s with
          ioIn := s.ioIn.tail, draws := if s.ioIn = [] then s.draws + 1 else s.draws
          trace := .ioRead s.bc v :: s.trace } t)

/-- 46_block.md R391 to R395: one iteration of LDI, LDD, LDIR and LDDR. -/
def Obligations.BlockCopyInstructions : Prop :=
  ∀ (up rep : Bool) (s : State), s.adapterErrs = [] → s.mem.wf = true →
    let v := s.mem.read s.hl
    let n := v + s.a
    let again := rep && decide (s.bc ≠ 1)
    ∃ t, exec (blockCopy up rep) s = .next t ∧
      t.hl = stepped up s.hl ∧ t.de = stepped up s.de ∧ t.bc = s.bc - 1 ∧
      t.mem.read s.de = v ∧ (∀ b, b ≠ s.de → t.mem.read b = s.mem.read b) ∧
      t = { s with
        b := t.b, c := t.c, d := t.d, e := t.e, h := t.h, l := t.l, mem := t.mem
        f := { s.f with h := false, n := false, pv := decide (s.bc ≠ 1), x := n.getLsbD 3, y := n.getLsbD 1 }
        pc := blockPC again s.pc, tstates := s.tstates + blockCost again
        trace := .memWrite s.de v :: .memRead s.hl v :: s.trace }

/-- 46_block.md R391, R396 to R399: one iteration of CPI, CPD, CPIR and CPDR; the repeating forms stop at a match too. -/
def Obligations.BlockCompareInstructions : Prop :=
  ∀ (up rep : Bool) (s : State), s.adapterErrs = [] →
    let v := s.mem.read s.hl
    let h := decide (s.a.toNat % 16 < v.toNat % 16)
    let n := s.a - v - (if h then 1 else 0)
    let again := rep && decide (s.bc ≠ 1) && decide (s.a ≠ v)
    ∃ t, exec (blockCompare up rep) s = .next t ∧
      t.hl = stepped up s.hl ∧ t.bc = s.bc - 1 ∧
      t = { s with
        b := t.b, c := t.c, h := t.h, l := t.l
        f := { s.f with
          s := (s.a - v).getLsbD 7, z := decide (s.a = v), h := h, n := true, pv := decide (s.bc ≠ 1)
          x := n.getLsbD 3, y := n.getLsbD 1 }
        pc := blockPC again s.pc, tstates := s.tstates + blockCost again
        trace := .memRead s.hl v :: s.trace }

/-- 46_block.md R391, R400 to R407: one iteration of the INI and OUTI families; the port is B:C with B before the
decrement. S, H, PV, C, X and Y are whatever the free bits are: the statement holds for every value of them. -/
def Obligations.BlockInOutInstructions : Prop :=
  ∀ (up rep : Bool) (s : State), s.adapterErrs = [] → s.mem.wf = true →
    let again := rep && decide (s.b ≠ 1)
    (∃ v t, (∀ w ws, s.ioIn = w :: ws → v = w) ∧ exec (blockInput up rep) s = .next t ∧
      t.hl = stepped up s.hl ∧ t.mem.read s.hl = v ∧ (∀ b, b ≠ s.hl → t.mem.read b = s.mem.read b) ∧
      t = { s with
        b := s.b - 1, h := t.h, l := t.l, mem := t.mem
        f := { t.f with z := decide (s.b = 1), n := true }
        pc := blockPC again s.pc, tstates := s.tstates + blockCost again
        ioIn := s.ioIn.tail, draws := (if s.ioIn = [] then s.draws + 1 else s.draws) + 6
        trace := .memWrite s.hl v :: .ioRead s.bc v :: s.trace }) ∧
    (∃ t, exec (blockOutput up rep) s = .next t ∧ t.hl = stepped up s.hl ∧
      t = { s with
        b := s.b - 1, h := t.h, l := t.l
        f := { t.f with z := decide (s.b = 1), n := true }
        pc := blockPC again s.pc, tstates := s.tstates + blockCost again, draws := s.draws + 6
        trace := .ioWrite s.bc (s.mem.read s.hl) :: .memRead s.hl (s.mem.read s.hl) :: s.trace })

/-- 41_base_x0.md R200, 42_base_x1_x2.md R253, 43_base_x3.md R292, R293, 45_ed_prefix.md R363: NOP, HALT, DI, EI and IM; IM n is
never a fault. -/
def Obligations.ControlInstructions : Prop :=
  ∀ s : State,
    exec .nop s = .next { s with tstates := s.tstates + 4 } ∧
    exec .halt s = .next { s with halted := true, tstates := s.tstates + 4 } ∧
    exec .di s = .next { s with iff1 := false, iff2 := false, eiDiDelay := true, tstates := s.tstates + 4 } ∧
    exec .ei s = .next { s with iff1 := true, iff2 := true, eiDiDelay := true, tstates := s.tstates + 4 } ∧
    (∀ m : IMode, exec (mkIm m) s = .next { s with im := m, tstates := s.tstates + 8 })

/-- 45_ed_prefix.md R364 to R367: LD I,A and LD R,A write all eight bits and no flag; LD A,I and LD A,R report IFF2 in PV and
keep C. -/
def Obligations.SpecialRegisterMoves : Prop :=
  ∀ s : State,
    exec .ld_I_A s = .next { s with i := s.a, tstates := s.tstates + 9 } ∧
    exec .ld_R_A s = .next { s with r := s.a, tstates := s.tstates + 9 } ∧
    (∀ fromR : Bool,
      let v := if fromR then s.r else s.i
      exec (if fromR then .ld_A_R else .ld_A_I) s =
        .next { s with
          a := v, tstates := s.tstates + 9
          f := { s.f with
            s := v.getLsbD 7, z := decide (v = 0), y := v.getLsbD 5, h := false, x := v.getLsbD 3
            pv := s.iff2, n := false } })

end
end

