-- ==== Sys2Proof/Laws/Families.lean ====
section
/-! SUPPORT. Every instruction belongs to one of the families of the decoder's tables; `exec` of a family is one shared
operation. `instr_families` turns a claim about all instructions into one case per family. -/

namespace Sys2Proof.Machine

theorem exec_mkNop (s : State) : exec Instr.nop s = opNop s := rfl

theorem exec_mkHalt (s : State) : exec Instr.halt s = opHalt s := rfl

theorem exec_mkDi (s : State) : exec Instr.di s = opDi s := rfl

theorem exec_mkEi (s : State) : exec Instr.ei s = opEi s := rfl

theorem exec_mkIm (m : IMode) (s : State) :
    exec (mkIm m) s = opIm m s := by
  cases m <;> rfl

theorem exec_mkLdIA (s : State) : exec Instr.ld_I_A s = opLdIA s := rfl

theorem exec_mkLdRA (s : State) : exec Instr.ld_R_A s = opLdRA s := rfl

theorem exec_mkLdAI (s : State) : exec Instr.ld_A_I s = opLdASpecial s.i s := rfl

theorem exec_mkLdAR (s : State) : exec Instr.ld_A_R s = opLdASpecial s.r s := rfl

theorem exec_mkLdRR (x : Ctx) (dst : Reg8) (src : Reg8) (s : State) :
    exec (mkLdRR x dst src) s = opLdRR x dst src s := by
  cases dst <;> cases src <;> cases x <;> rfl

theorem exec_mkLdRM (x : Ctx) (r : Reg8) (d : Byte) (s : State) :
    exec (mkLdRM x r d) s = opLdRM x r d s := by
  cases r <;> cases x <;> rfl

theorem exec_mkLdMR (x : Ctx) (r : Reg8) (d : Byte) (s : State) :
    exec (mkLdMR x r d) s = opLdMR x r d s := by
  cases r <;> cases x <;> rfl

theorem exec_mkLdRN (x : Ctx) (r : Reg8) (n : Byte) (s : State) :
    exec (mkLdRN x r n) s = opLdRN x r n s := by
  cases r <;> cases x <;> rfl

theorem exec_mkLdMN (x : Ctx) (d : Byte) (n : Byte) (s : State) :
    exec (mkLdMN x d n) s = opLdMN x d n s := by
  cases x <;> rfl

theorem exec_mkLdBcA (s : State) : exec Instr.ld_mBC_A s = opStoreA s.bc 7 s := rfl

theorem exec_mkLdDeA (s : State) : exec Instr.ld_mDE_A s = opStoreA s.de 7 s := rfl

theorem exec_mkLdNnA (nn : Word) (s : State) : exec (Instr.ld_mnn_A nn) s = opStoreA nn 13 s := rfl

theorem exec_mkLdABc (s : State) : exec Instr.ld_A_mBC s = opLoadA s.bc 7 s := rfl

theorem exec_mkLdADe (s : State) : exec Instr.ld_A_mDE s = opLoadA s.de 7 s := rfl

theorem exec_mkLdANn (nn : Word) (s : State) : exec (Instr.ld_A_mnn nn) s = opLoadA nn 13 s := rfl

theorem exec_mkLdRpNn (x : Ctx) (p : Rp) (nn : Word) (s : State) :
    exec (mkLdRpNn x p nn) s = opLdRpNn x p nn s := by
  cases p <;> cases x <;> rfl

theorem exec_mkLdNnHl (x : Ctx) (nn : Word) (s : State) :
    exec (mkLdNnHl x nn) s = opStoreWord nn (regHL x s) (16 + ctxT x) s := by
  cases x <;> rfl

theorem exec_mkLdHlNn (x : Ctx) (nn : Word) (s : State) :
    exec (mkLdHlNn x nn) s = opLoadWord x .hl nn (16 + ctxT x) s := by
  cases x <;> rfl

theorem exec_mkLdNnRp (p : Rp) (nn : Word) (s : State) :
    exec (mkLdNnRp p nn) s = opStoreWord nn (reg16 .none p s) 20 s := by
  cases p <;> rfl

theorem exec_mkLdRpNnMem (p : Rp) (nn : Word) (s : State) :
    exec (mkLdRpNnMem p nn) s = opLoadWord .none p nn 20 s := by
  cases p <;> rfl

theorem exec_mkLdSpHl (x : Ctx) (s : State) :
    exec (mkLdSpHl x) s = opLdSpHl x s := by
  cases x <;> rfl

theorem exec_mkAluR (x : Ctx) (op : AluOp) (r : Reg8) (s : State) :
    exec (mkAluR x op r) s = opAluR x op r s := by
  cases op <;> cases r <;> cases x <;> rfl

theorem exec_mkAluM (x : Ctx) (op : AluOp) (d : Byte) (s : State) :
    exec (mkAluM x op d) s = opAluM x op d s := by
  cases op <;> cases x <;> rfl

theorem exec_mkAluN (op : AluOp) (n : Byte) (s : State) :
    exec (mkAluN op n) s = opAluN op n s := by
  cases op <;> rfl

theorem exec_mkIncR (x : Ctx) (r : Reg8) (s : State) :
    exec (mkIncR x r) s = opStepR inc8 x r s := by
  cases r <;> cases x <;> rfl

theorem exec_mkDecR (x : Ctx) (r : Reg8) (s : State) :
    exec (mkDecR x r) s = opStepR dec8 x r s := by
  cases r <;> cases x <;> rfl

theorem exec_mkIncM (x : Ctx) (d : Byte) (s : State) :
    exec (mkIncM x d) s = opStepM inc8 x d s := by
  cases x <;> rfl

theorem exec_mkDecM (x : Ctx) (d : Byte) (s : State) :
    exec (mkDecM x d) s = opStepM dec8 x d s := by
  cases x <;> rfl

theorem exec_mkNeg (s : State) : exec Instr.neg s = opNeg s := rfl

theorem exec_mkRrd (s : State) : exec Instr.rrd s = opNibbles rrdMem rrdA s := rfl

theorem exec_mkRld (s : State) : exec Instr.rld s = opNibbles rldMem rldA s := rfl

theorem exec_mkAddHl (x : Ctx) (p : Rp) (s : State) :
    exec (mkAddHl x p) s = opAddHl x p s := by
  cases p <;> cases x <;> rfl

theorem exec_mkIncRp (x : Ctx) (p : Rp) (s : State) :
    exec (mkIncRp x p) s = opIncRp x p s := by
  cases p <;> cases x <;> rfl

theorem exec_mkDecRp (x : Ctx) (p : Rp) (s : State) :
    exec (mkDecRp x p) s = opDecRp x p s := by
  cases p <;> cases x <;> rfl

theorem exec_mkAdcHl (p : Rp) (s : State) :
    exec (mkAdcHl p) s = opAdcHl p s := by
  cases p <;> rfl

theorem exec_mkSbcHl (p : Rp) (s : State) :
    exec (mkSbcHl p) s = opSbcHl p s := by
  cases p <;> rfl

theorem exec_mkRlca (s : State) : exec Instr.rlca s = opAcc rlca s := rfl

theorem exec_mkRrca (s : State) : exec Instr.rrca s = opAcc rrca s := rfl

theorem exec_mkRla (s : State) : exec Instr.rla s = opAcc rla s := rfl

theorem exec_mkRra (s : State) : exec Instr.rra s = opAcc rra s := rfl

theorem exec_mkDaa (s : State) : exec Instr.daa s = opAcc daa s := rfl

theorem exec_mkCpl (s : State) : exec Instr.cpl s = opCpl s := rfl

theorem exec_mkScf (s : State) : exec Instr.scf s = opScf s := rfl

theorem exec_mkCcf (s : State) : exec Instr.ccf s = opCcf s := rfl

theorem exec_mkJr (e : Byte) (s : State) : exec (Instr.jr_e e) s = opJr e s := rfl

theorem exec_mkJrCc (c : JrCond) (e : Byte) (s : State) :
    exec (mkJrCc c e) s = opJrCc c e s := by
  cases c <;> rfl

theorem exec_mkDjnz (e : Byte) (s : State) : exec (Instr.djnz_e e) s = opDjnz e s := rfl

theorem exec_mkJp (nn : Word) (s : State) : exec (Instr.jp_nn nn) s = opJp nn s := rfl

theorem exec_mkJpCc (c : Cond) (nn : Word) (s : State) :
    exec (mkJpCc c nn) s = opJpCc c nn s := by
  cases c <;> rfl

theorem exec_mkJpHl (x : Ctx) (s : State) :
    exec (mkJpHl x) s = opJpHl x s := by
  cases x <;> rfl

theorem exec_mkCall (nn : Word) (s : State) : exec (Instr.call_nn nn) s = opCall nn s := rfl

theorem exec_mkCallCc (c : Cond) (nn : Word) (s : State) :
    exec (mkCallCc c nn) s = opCallCc c nn s := by
  cases c <;> rfl

theorem exec_mkRst (y : Idx8) (s : State) :
    exec (mkRst y) s = opRst y s := by
  cases y <;> rfl

theorem exec_mkRet (s : State) : exec Instr.ret s = opRet s := rfl

theorem exec_mkRetCc (c : Cond) (s : State) :
    exec (mkRetCc c) s = opRetCc c s := by
  cases c <;> rfl

theorem exec_mkRetn (s : State) : exec Instr.retn s = opRetn s := rfl

theorem exec_mkReti (s : State) : exec Instr.reti s = opReti s := rfl

theorem exec_mkPush (x : Ctx) (p : Rp2) (s : State) :
    exec (mkPush x p) s = opPush x p s := by
  cases p <;> cases x <;> rfl

theorem exec_mkPop (x : Ctx) (p : Rp2) (s : State) :
    exec (mkPop x p) s = opPop x p s := by
  cases p <;> cases x <;> rfl

theorem exec_mkExAf (s : State) : exec Instr.ex_AF_AFs s = opExAf s := rfl

theorem exec_mkExx (s : State) : exec Instr.exx s = opExx s := rfl

theorem exec_mkExDeHl (s : State) : exec Instr.ex_DE_HL s = opExDeHl s := rfl

theorem exec_mkExSp (x : Ctx) (s : State) :
    exec (mkExSp x) s = opExSp x s := by
  cases x <;> rfl

theorem exec_mkRotR (op : RotOp) (r : Reg8) (s : State) :
    exec (mkRotR op r) s = opRotR op r s := by
  cases op <;> cases r <;> rfl

theorem exec_mkRotM (x : Ctx) (op : RotOp) (d : Byte) (s : State) :
    exec (mkRotM x op d) s = opRotM x op d s := by
  cases op <;> cases x <;> rfl

theorem exec_mkBitR (y : Idx8) (r : Reg8) (s : State) :
    exec (mkBitR y r) s = opBitR y r s := by
  cases y <;> cases r <;> rfl

theorem exec_mkBitM (x : Ctx) (y : Idx8) (d : Byte) (s : State) :
    exec (mkBitM x y d) s = opBitM x y d s := by
  cases y <;> cases x <;> rfl

theorem exec_mkResR (y : Idx8) (r : Reg8) (s : State) :
    exec (mkResR y r) s = opPutBitR resBit y r s := by
  cases y <;> cases r <;> rfl

theorem exec_mkResM (x : Ctx) (y : Idx8) (d : Byte) (s : State) :
    exec (mkResM x y d) s = opPutBitM resBit x y d s := by
  cases y <;> cases x <;> rfl

theorem exec_mkSetR (y : Idx8) (r : Reg8) (s : State) :
    exec (mkSetR y r) s = opPutBitR setBit y r s := by
  cases y <;> cases r <;> rfl

theorem exec_mkSetM (x : Ctx) (y : Idx8) (d : Byte) (s : State) :
    exec (mkSetM x y d) s = opPutBitM setBit x y d s := by
  cases y <;> cases x <;> rfl

theorem exec_mkInAN (n : Byte) (s : State) : exec (Instr.in_A_pn n) s = opInAN n s := rfl

theorem exec_mkOutNA (n : Byte) (s : State) : exec (Instr.out_pn_A n) s = opOutNA n s := rfl

theorem exec_mkInR (r : Reg8) (s : State) :
    exec (mkInR r) s = opInR r s := by
  cases r <;> rfl

theorem exec_mkOutR (r : Reg8) (s : State) :
    exec (mkOutR r) s = opOutR r s := by
  cases r <;> rfl

theorem exec_mkLdi (s : State) : exec Instr.ldi s = opCopy true false s := rfl

theorem exec_mkLdd (s : State) : exec Instr.ldd s = opCopy false false s := rfl

theorem exec_mkLdir (s : State) : exec Instr.ldir s = opCopy true true s := rfl

theorem exec_mkLddr (s : State) : exec Instr.lddr s = opCopy false true s := rfl

theorem exec_mkCpi (s : State) : exec Instr.cpi s = opCompare true false s := rfl

theorem exec_mkCpd (s : State) : exec Instr.cpd s = opCompare false false s := rfl

theorem exec_mkCpir (s : State) : exec Instr.cpir s = opCompare true true s := rfl

theorem exec_mkCpdr (s : State) : exec Instr.cpdr s = opCompare false true s := rfl

theorem exec_mkIni (s : State) : exec Instr.ini s = opInput true false s := rfl

theorem exec_mkInd (s : State) : exec Instr.ind s = opInput false false s := rfl

theorem exec_mkInir (s : State) : exec Instr.inir s = opInput true true s := rfl

theorem exec_mkIndr (s : State) : exec Instr.indr s = opInput false true s := rfl

theorem exec_mkOuti (s : State) : exec Instr.outi s = opOutput true false s := rfl

theorem exec_mkOutd (s : State) : exec Instr.outd s = opOutput false false s := rfl

theorem exec_mkOtir (s : State) : exec Instr.otir s = opOutput true true s := rfl

theorem exec_mkOtdr (s : State) : exec Instr.otdr s = opOutput false true s := rfl

/-- One case per family. -/
theorem instr_families {P : Instr → Prop}
    (hNop : P Instr.nop)
    (hHalt : P Instr.halt)
    (hDi : P Instr.di)
    (hEi : P Instr.ei)
    (hIm : ∀ (m : IMode), P (mkIm m))
    (hLdIA : P Instr.ld_I_A)
    (hLdRA : P Instr.ld_R_A)
    (hLdAI : P Instr.ld_A_I)
    (hLdAR : P Instr.ld_A_R)
    (hLdRR : ∀ (x : Ctx) (dst : Reg8) (src : Reg8), P (mkLdRR x dst src))
    (hLdRM : ∀ (x : Ctx) (r : Reg8) (d : Byte), P (mkLdRM x r d))
    (hLdMR : ∀ (x : Ctx) (r : Reg8) (d : Byte), P (mkLdMR x r d))
    (hLdRN : ∀ (x : Ctx) (r : Reg8) (n : Byte), P (mkLdRN x r n))
    (hLdMN : ∀ (x : Ctx) (d : Byte) (n : Byte), P (mkLdMN x d n))
    (hLdBcA : P Instr.ld_mBC_A)
    (hLdDeA : P Instr.ld_mDE_A)
    (hLdNnA : ∀ (nn : Word), P (Instr.ld_mnn_A nn))
    (hLdABc : P Instr.ld_A_mBC)
    (hLdADe : P Instr.ld_A_mDE)
    (hLdANn : ∀ (nn : Word), P (Instr.ld_A_mnn nn))
    (hLdRpNn : ∀ (x : Ctx) (p : Rp) (nn : Word), P (mkLdRpNn x p nn))
    (hLdNnHl : ∀ (x : Ctx) (nn : Word), P (mkLdNnHl x nn))
    (hLdHlNn : ∀ (x : Ctx) (nn : Word), P (mkLdHlNn x nn))
    (hLdNnRp : ∀ (p : Rp) (nn : Word), P (mkLdNnRp p nn))
    (hLdRpNnMem : ∀ (p : Rp) (nn : Word), P (mkLdRpNnMem p nn))
    (hLdSpHl : ∀ (x : Ctx), P (mkLdSpHl x))
    (hAluR : ∀ (x : Ctx) (op : AluOp) (r : Reg8), P (mkAluR x op r))
    (hAluM : ∀ (x : Ctx) (op : AluOp) (d : Byte), P (mkAluM x op d))
    (hAluN : ∀ (op : AluOp) (n : Byte), P (mkAluN op n))
    (hIncR : ∀ (x : Ctx) (r : Reg8), P (mkIncR x r))
    (hDecR : ∀ (x : Ctx) (r : Reg8), P (mkDecR x r))
    (hIncM : ∀ (x : Ctx) (d : Byte), P (mkIncM x d))
    (hDecM : ∀ (x : Ctx) (d : Byte), P (mkDecM x d))
    (hNeg : P Instr.neg)
    (hRrd : P Instr.rrd)
    (hRld : P Instr.rld)
    (hAddHl : ∀ (x : Ctx) (p : Rp), P (mkAddHl x p))
    (hIncRp : ∀ (x : Ctx) (p : Rp), P (mkIncRp x p))
    (hDecRp : ∀ (x : Ctx) (p : Rp), P (mkDecRp x p))
    (hAdcHl : ∀ (p : Rp), P (mkAdcHl p))
    (hSbcHl : ∀ (p : Rp), P (mkSbcHl p))
    (hRlca : P Instr.rlca)
    (hRrca : P Instr.rrca)
    (hRla : P Instr.rla)
    (hRra : P Instr.rra)
    (hDaa : P Instr.daa)
    (hCpl : P Instr.cpl)
    (hScf : P Instr.scf)
    (hCcf : P Instr.ccf)
    (hJr : ∀ (e : Byte), P (Instr.jr_e e))
    (hJrCc : ∀ (c : JrCond) (e : Byte), P (mkJrCc c e))
    (hDjnz : ∀ (e : Byte), P (Instr.djnz_e e))
    (hJp : ∀ (nn : Word), P (Instr.jp_nn nn))
    (hJpCc : ∀ (c : Cond) (nn : Word), P (mkJpCc c nn))
    (hJpHl : ∀ (x : Ctx), P (mkJpHl x))
    (hCall : ∀ (nn : Word), P (Instr.call_nn nn))
    (hCallCc : ∀ (c : Cond) (nn : Word), P (mkCallCc c nn))
    (hRst : ∀ (y : Idx8), P (mkRst y))
    (hRet : P Instr.ret)
    (hRetCc : ∀ (c : Cond), P (mkRetCc c))
    (hRetn : P Instr.retn)
    (hReti : P Instr.reti)
    (hPush : ∀ (x : Ctx) (p : Rp2), P (mkPush x p))
    (hPop : ∀ (x : Ctx) (p : Rp2), P (mkPop x p))
    (hExAf : P Instr.ex_AF_AFs)
    (hExx : P Instr.exx)
    (hExDeHl : P Instr.ex_DE_HL)
    (hExSp : ∀ (x : Ctx), P (mkExSp x))
    (hRotR : ∀ (op : RotOp) (r : Reg8), P (mkRotR op r))
    (hRotM : ∀ (x : Ctx) (op : RotOp) (d : Byte), P (mkRotM x op d))
    (hBitR : ∀ (y : Idx8) (r : Reg8), P (mkBitR y r))
    (hBitM : ∀ (x : Ctx) (y : Idx8) (d : Byte), P (mkBitM x y d))
    (hResR : ∀ (y : Idx8) (r : Reg8), P (mkResR y r))
    (hResM : ∀ (x : Ctx) (y : Idx8) (d : Byte), P (mkResM x y d))
    (hSetR : ∀ (y : Idx8) (r : Reg8), P (mkSetR y r))
    (hSetM : ∀ (x : Ctx) (y : Idx8) (d : Byte), P (mkSetM x y d))
    (hInAN : ∀ (n : Byte), P (Instr.in_A_pn n))
    (hOutNA : ∀ (n : Byte), P (Instr.out_pn_A n))
    (hInR : ∀ (r : Reg8), P (mkInR r))
    (hOutR : ∀ (r : Reg8), P (mkOutR r))
    (hLdi : P Instr.ldi)
    (hLdd : P Instr.ldd)
    (hLdir : P Instr.ldir)
    (hLddr : P Instr.lddr)
    (hCpi : P Instr.cpi)
    (hCpd : P Instr.cpd)
    (hCpir : P Instr.cpir)
    (hCpdr : P Instr.cpdr)
    (hIni : P Instr.ini)
    (hInd : P Instr.ind)
    (hInir : P Instr.inir)
    (hIndr : P Instr.indr)
    (hOuti : P Instr.outi)
    (hOutd : P Instr.outd)
    (hOtir : P Instr.otir)
    (hOtdr : P Instr.otdr) :
    ∀ i, P i
  | .ld_BC_nn nn => hLdRpNn .none .bc nn
  | .ld_B_n n => hLdRN .none .b n
  | .ld_C_n n => hLdRN .none .c n
  | .djnz_e e => hDjnz e
  | .ld_DE_nn nn => hLdRpNn .none .de nn
  | .ld_D_n n => hLdRN .none .d n
  | .jr_e e => hJr e
  | .ld_E_n n => hLdRN .none .e n
  | .jr_NZ_e e => hJrCc .nz e
  | .ld_HL_nn nn => hLdRpNn .none .hl nn
  | .ld_mnn_HL nn => hLdNnHl .none nn
  | .ld_H_n n => hLdRN .none .h n
  | .jr_Z_e e => hJrCc .z e
  | .ld_HL_mnn nn => hLdHlNn .none nn
  | .ld_L_n n => hLdRN .none .l n
  | .jr_NC_e e => hJrCc .nc e
  | .ld_SP_nn nn => hLdRpNn .none .sp nn
  | .ld_mnn_A nn => hLdNnA nn
  | .ld_mHL_n n => hLdMN .none 0 n
  | .jr_C_e e => hJrCc .c e
  | .ld_A_mnn nn => hLdANn nn
  | .ld_A_n n => hLdRN .none .a n
  | .jp_NZ_nn nn => hJpCc .nz nn
  | .jp_nn nn => hJp nn
  | .call_NZ_nn nn => hCallCc .nz nn
  | .add_A_n n => hAluN .add n
  | .jp_Z_nn nn => hJpCc .z nn
  | .call_Z_nn nn => hCallCc .z nn
  | .call_nn nn => hCall nn
  | .adc_A_n n => hAluN .adc n
  | .jp_NC_nn nn => hJpCc .nc nn
  | .out_pn_A n => hOutNA n
  | .call_NC_nn nn => hCallCc .nc nn
  | .sub_n n => hAluN .sub n
  | .jp_C_nn nn => hJpCc .c nn
  | .in_A_pn n => hInAN n
  | .call_C_nn nn => hCallCc .c nn
  | .sbc_A_n n => hAluN .sbc n
  | .jp_PO_nn nn => hJpCc .po nn
  | .call_PO_nn nn => hCallCc .po nn
  | .and_n n => hAluN .and n
  | .jp_PE_nn nn => hJpCc .pe nn
  | .call_PE_nn nn => hCallCc .pe nn
  | .xor_n n => hAluN .xor n
  | .jp_P_nn nn => hJpCc .p nn
  | .call_P_nn nn => hCallCc .p nn
  | .or_n n => hAluN .or n
  | .jp_M_nn nn => hJpCc .m nn
  | .call_M_nn nn => hCallCc .m nn
  | .cp_n n => hAluN .cp n
  | .ld_mnn_BC nn => hLdNnRp .bc nn
  | .ld_BC_mnn nn => hLdRpNnMem .bc nn
  | .ld_mnn_DE nn => hLdNnRp .de nn
  | .ld_DE_mnn nn => hLdRpNnMem .de nn
  | .ld_mnn_HL_ed nn => hLdNnRp .hl nn
  | .ld_HL_mnn_ed nn => hLdRpNnMem .hl nn
  | .ld_mnn_SP nn => hLdNnRp .sp nn
  | .ld_SP_mnn nn => hLdRpNnMem .sp nn
  | .ld_IX_nn nn => hLdRpNn .ix .hl nn
  | .ld_mnn_IX nn => hLdNnHl .ix nn
  | .ld_IXh_n n => hLdRN .ix .h n
  | .ld_IX_mnn nn => hLdHlNn .ix nn
  | .ld_IXl_n n => hLdRN .ix .l n
  | .inc_mIXd d => hIncM .ix d
  | .dec_mIXd d => hDecM .ix d
  | .ld_mIXd_n d n => hLdMN .ix d n
  | .ld_B_mIXd d => hLdRM .ix .b d
  | .ld_C_mIXd d => hLdRM .ix .c d
  | .ld_D_mIXd d => hLdRM .ix .d d
  | .ld_E_mIXd d => hLdRM .ix .e d
  | .ld_H_mIXd d => hLdRM .ix .h d
  | .ld_L_mIXd d => hLdRM .ix .l d
  | .ld_mIXd_B d => hLdMR .ix .b d
  | .ld_mIXd_C d => hLdMR .ix .c d
  | .ld_mIXd_D d => hLdMR .ix .d d
  | .ld_mIXd_E d => hLdMR .ix .e d
  | .ld_mIXd_H d => hLdMR .ix .h d
  | .ld_mIXd_L d => hLdMR .ix .l d
  | .ld_mIXd_A d => hLdMR .ix .a d
  | .ld_A_mIXd d => hLdRM .ix .a d
  | .add_A_mIXd d => hAluM .ix .add d
  | .adc_A_mIXd d => hAluM .ix .adc d
  | .sub_mIXd d => hAluM .ix .sub d
  | .sbc_A_mIXd d => hAluM .ix .sbc d
  | .and_mIXd d => hAluM .ix .and d
  | .xor_mIXd d => hAluM .ix .xor d
  | .or_mIXd d => hAluM .ix .or d
  | .cp_mIXd d => hAluM .ix .cp d
  | .rlc_mIXd d => hRotM .ix .rlc d
  | .rrc_mIXd d => hRotM .ix .rrc d
  | .rl_mIXd d => hRotM .ix .rl d
  | .rr_mIXd d => hRotM .ix .rr d
  | .sla_mIXd d => hRotM .ix .sla d
  | .sra_mIXd d => hRotM .ix .sra d
  | .srl_mIXd d => hRotM .ix .srl d
  | .bit_0_mIXd d => hBitM .ix .i0 d
  | .bit_1_mIXd d => hBitM .ix .i1 d
  | .bit_2_mIXd d => hBitM .ix .i2 d
  | .bit_3_mIXd d => hBitM .ix .i3 d
  | .bit_4_mIXd d => hBitM .ix .i4 d
  | .bit_5_mIXd d => hBitM .ix .i5 d
  | .bit_6_mIXd d => hBitM .ix .i6 d
  | .bit_7_mIXd d => hBitM .ix .i7 d
  | .res_0_mIXd d => hResM .ix .i0 d
  | .res_1_mIXd d => hResM .ix .i1 d
  | .res_2_mIXd d => hResM .ix .i2 d
  | .res_3_mIXd d => hResM .ix .i3 d
  | .res_4_mIXd d => hResM .ix .i4 d
  | .res_5_mIXd d => hResM .ix .i5 d
  | .res_6_mIXd d => hResM .ix .i6 d
  | .res_7_mIXd d => hResM .ix .i7 d
  | .set_0_mIXd d => hSetM .ix .i0 d
  | .set_1_mIXd d => hSetM .ix .i1 d
  | .set_2_mIXd d => hSetM .ix .i2 d
  | .set_3_mIXd d => hSetM .ix .i3 d
  | .set_4_mIXd d => hSetM .ix .i4 d
  | .set_5_mIXd d => hSetM .ix .i5 d
  | .set_6_mIXd d => hSetM .ix .i6 d
  | .set_7_mIXd d => hSetM .ix .i7 d
  | .ld_IY_nn nn => hLdRpNn .iy .hl nn
  | .ld_mnn_IY nn => hLdNnHl .iy nn
  | .ld_IYh_n n => hLdRN .iy .h n
  | .ld_IY_mnn nn => hLdHlNn .iy nn
  | .ld_IYl_n n => hLdRN .iy .l n
  | .inc_mIYd d => hIncM .iy d
  | .dec_mIYd d => hDecM .iy d
  | .ld_mIYd_n d n => hLdMN .iy d n
  | .ld_B_mIYd d => hLdRM .iy .b d
  | .ld_C_mIYd d => hLdRM .iy .c d
  | .ld_D_mIYd d => hLdRM .iy .d d
  | .ld_E_mIYd d => hLdRM .iy .e d
  | .ld_H_mIYd d => hLdRM .iy .h d
  | .ld_L_mIYd d => hLdRM .iy .l d
  | .ld_mIYd_B d => hLdMR .iy .b d
  | .ld_mIYd_C d => hLdMR .iy .c d
  | .ld_mIYd_D d => hLdMR .iy .d d
  | .ld_mIYd_E d => hLdMR .iy .e d
  | .ld_mIYd_H d => hLdMR .iy .h d
  | .ld_mIYd_L d => hLdMR .iy .l d
  | .ld_mIYd_A d => hLdMR .iy .a d
  | .ld_A_mIYd d => hLdRM .iy .a d
  | .add_A_mIYd d => hAluM .iy .add d
  | .adc_A_mIYd d => hAluM .iy .adc d
  | .sub_mIYd d => hAluM .iy .sub d
  | .sbc_A_mIYd d => hAluM .iy .sbc d
  | .and_mIYd d => hAluM .iy .and d
  | .xor_mIYd d => hAluM .iy .xor d
  | .or_mIYd d => hAluM .iy .or d
  | .cp_mIYd d => hAluM .iy .cp d
  | .rlc_mIYd d => hRotM .iy .rlc d
  | .rrc_mIYd d => hRotM .iy .rrc d
  | .rl_mIYd d => hRotM .iy .rl d
  | .rr_mIYd d => hRotM .iy .rr d
  | .sla_mIYd d => hRotM .iy .sla d
  | .sra_mIYd d => hRotM .iy .sra d
  | .srl_mIYd d => hRotM .iy .srl d
  | .bit_0_mIYd d => hBitM .iy .i0 d
  | .bit_1_mIYd d => hBitM .iy .i1 d
  | .bit_2_mIYd d => hBitM .iy .i2 d
  | .bit_3_mIYd d => hBitM .iy .i3 d
  | .bit_4_mIYd d => hBitM .iy .i4 d
  | .bit_5_mIYd d => hBitM .iy .i5 d
  | .bit_6_mIYd d => hBitM .iy .i6 d
  | .bit_7_mIYd d => hBitM .iy .i7 d
  | .res_0_mIYd d => hResM .iy .i0 d
  | .res_1_mIYd d => hResM .iy .i1 d
  | .res_2_mIYd d => hResM .iy .i2 d
  | .res_3_mIYd d => hResM .iy .i3 d
  | .res_4_mIYd d => hResM .iy .i4 d
  | .res_5_mIYd d => hResM .iy .i5 d
  | .res_6_mIYd d => hResM .iy .i6 d
  | .res_7_mIYd d => hResM .iy .i7 d
  | .set_0_mIYd d => hSetM .iy .i0 d
  | .set_1_mIYd d => hSetM .iy .i1 d
  | .set_2_mIYd d => hSetM .iy .i2 d
  | .set_3_mIYd d => hSetM .iy .i3 d
  | .set_4_mIYd d => hSetM .iy .i4 d
  | .set_5_mIYd d => hSetM .iy .i5 d
  | .set_6_mIYd d => hSetM .iy .i6 d
  | .set_7_mIYd d => hSetM .iy .i7 d
  | .nop => hNop
  | .ld_mBC_A => hLdBcA
  | .inc_BC => hIncRp .none .bc
  | .inc_B => hIncR .none .b
  | .dec_B => hDecR .none .b
  | .rlca => hRlca
  | .ex_AF_AFs => hExAf
  | .add_HL_BC => hAddHl .none .bc
  | .ld_A_mBC => hLdABc
  | .dec_BC => hDecRp .none .bc
  | .inc_C => hIncR .none .c
  | .dec_C => hDecR .none .c
  | .rrca => hRrca
  | .ld_mDE_A => hLdDeA
  | .inc_DE => hIncRp .none .de
  | .inc_D => hIncR .none .d
  | .dec_D => hDecR .none .d
  | .rla => hRla
  | .add_HL_DE => hAddHl .none .de
  | .ld_A_mDE => hLdADe
  | .dec_DE => hDecRp .none .de
  | .inc_E => hIncR .none .e
  | .dec_E => hDecR .none .e
  | .rra => hRra
  | .inc_HL => hIncRp .none .hl
  | .inc_H => hIncR .none .h
  | .dec_H => hDecR .none .h
  | .daa => hDaa
  | .add_HL_HL => hAddHl .none .hl
  | .dec_HL => hDecRp .none .hl
  | .inc_L => hIncR .none .l
  | .dec_L => hDecR .none .l
  | .cpl => hCpl
  | .inc_SP => hIncRp .none .sp
  | .inc_mHL => hIncM .none 0
  | .dec_mHL => hDecM .none 0
  | .scf => hScf
  | .add_HL_SP => hAddHl .none .sp
  | .dec_SP => hDecRp .none .sp
  | .inc_A => hIncR .none .a
  | .dec_A => hDecR .none .a
  | .ccf => hCcf
  | .ld_B_B => hLdRR .none .b .b
  | .ld_B_C => hLdRR .none .b .c
  | .ld_B_D => hLdRR .none .b .d
  | .ld_B_E => hLdRR .none .b .e
  | .ld_B_H => hLdRR .none .b .h
  | .ld_B_L => hLdRR .none .b .l
  | .ld_B_mHL => hLdRM .none .b 0
  | .ld_B_A => hLdRR .none .b .a
  | .ld_C_B => hLdRR .none .c .b
  | .ld_C_C => hLdRR .none .c .c
  | .ld_C_D => hLdRR .none .c .d
  | .ld_C_E => hLdRR .none .c .e
  | .ld_C_H => hLdRR .none .c .h
  | .ld_C_L => hLdRR .none .c .l
  | .ld_C_mHL => hLdRM .none .c 0
  | .ld_C_A => hLdRR .none .c .a
  | .ld_D_B => hLdRR .none .d .b
  | .ld_D_C => hLdRR .none .d .c
  | .ld_D_D => hLdRR .none .d .d
  | .ld_D_E => hLdRR .none .d .e
  | .ld_D_H => hLdRR .none .d .h
  | .ld_D_L => hLdRR .none .d .l
  | .ld_D_mHL => hLdRM .none .d 0
  | .ld_D_A => hLdRR .none .d .a
  | .ld_E_B => hLdRR .none .e .b
  | .ld_E_C => hLdRR .none .e .c
  | .ld_E_D => hLdRR .none .e .d
  | .ld_E_E => hLdRR .none .e .e
  | .ld_E_H => hLdRR .none .e .h
  | .ld_E_L => hLdRR .none .e .l
  | .ld_E_mHL => hLdRM .none .e 0
  | .ld_E_A => hLdRR .none .e .a
  | .ld_H_B => hLdRR .none .h .b
  | .ld_H_C => hLdRR .none .h .c
  | .ld_H_D => hLdRR .none .h .d
  | .ld_H_E => hLdRR .none .h .e
  | .ld_H_H => hLdRR .none .h .h
  | .ld_H_L => hLdRR .none .h .l
  | .ld_H_mHL => hLdRM .none .h 0
  | .ld_H_A => hLdRR .none .h .a
  | .ld_L_B => hLdRR .none .l .b
  | .ld_L_C => hLdRR .none .l .c
  | .ld_L_D => hLdRR .none .l .d
  | .ld_L_E => hLdRR .none .l .e
  | .ld_L_H => hLdRR .none .l .h
  | .ld_L_L => hLdRR .none .l .l
  | .ld_L_mHL => hLdRM .none .l 0
  | .ld_L_A => hLdRR .none .l .a
  | .ld_mHL_B => hLdMR .none .b 0
  | .ld_mHL_C => hLdMR .none .c 0
  | .ld_mHL_D => hLdMR .none .d 0
  | .ld_mHL_E => hLdMR .none .e 0
  | .ld_mHL_H => hLdMR .none .h 0
  | .ld_mHL_L => hLdMR .none .l 0
  | .halt => hHalt
  | .ld_mHL_A => hLdMR .none .a 0
  | .ld_A_B => hLdRR .none .a .b
  | .ld_A_C => hLdRR .none .a .c
  | .ld_A_D => hLdRR .none .a .d
  | .ld_A_E => hLdRR .none .a .e
  | .ld_A_H => hLdRR .none .a .h
  | .ld_A_L => hLdRR .none .a .l
  | .ld_A_mHL => hLdRM .none .a 0
  | .ld_A_A => hLdRR .none .a .a
  | .add_A_B => hAluR .none .add .b
  | .add_A_C => hAluR .none .add .c
  | .add_A_D => hAluR .none .add .d
  | .add_A_E => hAluR .none .add .e
  | .add_A_H => hAluR .none .add .h
  | .add_A_L => hAluR .none .add .l
  | .add_A_mHL => hAluM .none .add 0
  | .add_A_A => hAluR .none .add .a
  | .adc_A_B => hAluR .none .adc .b
  | .adc_A_C => hAluR .none .adc .c
  | .adc_A_D => hAluR .none .adc .d
  | .adc_A_E => hAluR .none .adc .e
  | .adc_A_H => hAluR .none .adc .h
  | .adc_A_L => hAluR .none .adc .l
  | .adc_A_mHL => hAluM .none .adc 0
  | .adc_A_A => hAluR .none .adc .a
  | .sub_B => hAluR .none .sub .b
  | .sub_C => hAluR .none .sub .c
  | .sub_D => hAluR .none .sub .d
  | .sub_E => hAluR .none .sub .e
  | .sub_H => hAluR .none .sub .h
  | .sub_L => hAluR .none .sub .l
  | .sub_mHL => hAluM .none .sub 0
  | .sub_A => hAluR .none .sub .a
  | .sbc_A_B => hAluR .none .sbc .b
  | .sbc_A_C => hAluR .none .sbc .c
  | .sbc_A_D => hAluR .none .sbc .d
  | .sbc_A_E => hAluR .none .sbc .e
  | .sbc_A_H => hAluR .none .sbc .h
  | .sbc_A_L => hAluR .none .sbc .l
  | .sbc_A_mHL => hAluM .none .sbc 0
  | .sbc_A_A => hAluR .none .sbc .a
  | .and_B => hAluR .none .and .b
  | .and_C => hAluR .none .and .c
  | .and_D => hAluR .none .and .d
  | .and_E => hAluR .none .and .e
  | .and_H => hAluR .none .and .h
  | .and_L => hAluR .none .and .l
  | .and_mHL => hAluM .none .and 0
  | .and_A => hAluR .none .and .a
  | .xor_B => hAluR .none .xor .b
  | .xor_C => hAluR .none .xor .c
  | .xor_D => hAluR .none .xor .d
  | .xor_E => hAluR .none .xor .e
  | .xor_H => hAluR .none .xor .h
  | .xor_L => hAluR .none .xor .l
  | .xor_mHL => hAluM .none .xor 0
  | .xor_A => hAluR .none .xor .a
  | .or_B => hAluR .none .or .b
  | .or_C => hAluR .none .or .c
  | .or_D => hAluR .none .or .d
  | .or_E => hAluR .none .or .e
  | .or_H => hAluR .none .or .h
  | .or_L => hAluR .none .or .l
  | .or_mHL => hAluM .none .or 0
  | .or_A => hAluR .none .or .a
  | .cp_B => hAluR .none .cp .b
  | .cp_C => hAluR .none .cp .c
  | .cp_D => hAluR .none .cp .d
  | .cp_E => hAluR .none .cp .e
  | .cp_H => hAluR .none .cp .h
  | .cp_L => hAluR .none .cp .l
  | .cp_mHL => hAluM .none .cp 0
  | .cp_A => hAluR .none .cp .a
  | .ret_NZ => hRetCc .nz
  | .pop_BC => hPop .none .bc
  | .push_BC => hPush .none .bc
  | .rst_00H => hRst .i0
  | .ret_Z => hRetCc .z
  | .ret => hRet
  | .rst_08H => hRst .i1
  | .ret_NC => hRetCc .nc
  | .pop_DE => hPop .none .de
  | .push_DE => hPush .none .de
  | .rst_10H => hRst .i2
  | .ret_C => hRetCc .c
  | .exx => hExx
  | .rst_18H => hRst .i3
  | .ret_PO => hRetCc .po
  | .pop_HL => hPop .none .hl
  | .ex_mSP_HL => hExSp .none
  | .push_HL => hPush .none .hl
  | .rst_20H => hRst .i4
  | .ret_PE => hRetCc .pe
  | .jp_mHL => hJpHl .none
  | .ex_DE_HL => hExDeHl
  | .rst_28H => hRst .i5
  | .ret_P => hRetCc .p
  | .pop_AF => hPop .none .af
  | .di => hDi
  | .push_AF => hPush .none .af
  | .rst_30H => hRst .i6
  | .ret_M => hRetCc .m
  | .ld_SP_HL => hLdSpHl .none
  | .ei => hEi
  | .rst_38H => hRst .i7
  | .rlc_B => hRotR .rlc .b
  | .rlc_C => hRotR .rlc .c
  | .rlc_D => hRotR .rlc .d
  | .rlc_E => hRotR .rlc .e
  | .rlc_H => hRotR .rlc .h
  | .rlc_L => hRotR .rlc .l
  | .rlc_mHL => hRotM .none .rlc 0
  | .rlc_A => hRotR .rlc .a
  | .rrc_B => hRotR .rrc .b
  | .rrc_C => hRotR .rrc .c
  | .rrc_D => hRotR .rrc .d
  | .rrc_E => hRotR .rrc .e
  | .rrc_H => hRotR .rrc .h
  | .rrc_L => hRotR .rrc .l
  | .rrc_mHL => hRotM .none .rrc 0
  | .rrc_A => hRotR .rrc .a
  | .rl_B => hRotR .rl .b
  | .rl_C => hRotR .rl .c
  | .rl_D => hRotR .rl .d
  | .rl_E => hRotR .rl .e
  | .rl_H => hRotR .rl .h
  | .rl_L => hRotR .rl .l
  | .rl_mHL => hRotM .none .rl 0
  | .rl_A => hRotR .rl .a
  | .rr_B => hRotR .rr .b
  | .rr_C => hRotR .rr .c
  | .rr_D => hRotR .rr .d
  | .rr_E => hRotR .rr .e
  | .rr_H => hRotR .rr .h
  | .rr_L => hRotR .rr .l
  | .rr_mHL => hRotM .none .rr 0
  | .rr_A => hRotR .rr .a
  | .sla_B => hRotR .sla .b
  | .sla_C => hRotR .sla .c
  | .sla_D => hRotR .sla .d
  | .sla_E => hRotR .sla .e
  | .sla_H => hRotR .sla .h
  | .sla_L => hRotR .sla .l
  | .sla_mHL => hRotM .none .sla 0
  | .sla_A => hRotR .sla .a
  | .sra_B => hRotR .sra .b
  | .sra_C => hRotR .sra .c
  | .sra_D => hRotR .sra .d
  | .sra_E => hRotR .sra .e
  | .sra_H => hRotR .sra .h
  | .sra_L => hRotR .sra .l
  | .sra_mHL => hRotM .none .sra 0
  | .sra_A => hRotR .sra .a
  | .srl_B => hRotR .srl .b
  | .srl_C => hRotR .srl .c
  | .srl_D => hRotR .srl .d
  | .srl_E => hRotR .srl .e
  | .srl_H => hRotR .srl .h
  | .srl_L => hRotR .srl .l
  | .srl_mHL => hRotM .none .srl 0
  | .srl_A => hRotR .srl .a
  | .bit_0_B => hBitR .i0 .b
  | .bit_0_C => hBitR .i0 .c
  | .bit_0_D => hBitR .i0 .d
  | .bit_0_E => hBitR .i0 .e
  | .bit_0_H => hBitR .i0 .h
  | .bit_0_L => hBitR .i0 .l
  | .bit_0_mHL => hBitM .none .i0 0
  | .bit_0_A => hBitR .i0 .a
  | .bit_1_B => hBitR .i1 .b
  | .bit_1_C => hBitR .i1 .c
  | .bit_1_D => hBitR .i1 .d
  | .bit_1_E => hBitR .i1 .e
  | .bit_1_H => hBitR .i1 .h
  | .bit_1_L => hBitR .i1 .l
  | .bit_1_mHL => hBitM .none .i1 0
  | .bit_1_A => hBitR .i1 .a
  | .bit_2_B => hBitR .i2 .b
  | .bit_2_C => hBitR .i2 .c
  | .bit_2_D => hBitR .i2 .d
  | .bit_2_E => hBitR .i2 .e
  | .bit_2_H => hBitR .i2 .h
  | .bit_2_L => hBitR .i2 .l
  | .bit_2_mHL => hBitM .none .i2 0
  | .bit_2_A => hBitR .i2 .a
  | .bit_3_B => hBitR .i3 .b
  | .bit_3_C => hBitR .i3 .c
  | .bit_3_D => hBitR .i3 .d
  | .bit_3_E => hBitR .i3 .e
  | .bit_3_H => hBitR .i3 .h
  | .bit_3_L => hBitR .i3 .l
  | .bit_3_mHL => hBitM .none .i3 0
  | .bit_3_A => hBitR .i3 .a
  | .bit_4_B => hBitR .i4 .b
  | .bit_4_C => hBitR .i4 .c
  | .bit_4_D => hBitR .i4 .d
  | .bit_4_E => hBitR .i4 .e
  | .bit_4_H => hBitR .i4 .h
  | .bit_4_L => hBitR .i4 .l
  | .bit_4_mHL => hBitM .none .i4 0
  | .bit_4_A => hBitR .i4 .a
  | .bit_5_B => hBitR .i5 .b
  | .bit_5_C => hBitR .i5 .c
  | .bit_5_D => hBitR .i5 .d
  | .bit_5_E => hBitR .i5 .e
  | .bit_5_H => hBitR .i5 .h
  | .bit_5_L => hBitR .i5 .l
  | .bit_5_mHL => hBitM .none .i5 0
  | .bit_5_A => hBitR .i5 .a
  | .bit_6_B => hBitR .i6 .b
  | .bit_6_C => hBitR .i6 .c
  | .bit_6_D => hBitR .i6 .d
  | .bit_6_E => hBitR .i6 .e
  | .bit_6_H => hBitR .i6 .h
  | .bit_6_L => hBitR .i6 .l
  | .bit_6_mHL => hBitM .none .i6 0
  | .bit_6_A => hBitR .i6 .a
  | .bit_7_B => hBitR .i7 .b
  | .bit_7_C => hBitR .i7 .c
  | .bit_7_D => hBitR .i7 .d
  | .bit_7_E => hBitR .i7 .e
  | .bit_7_H => hBitR .i7 .h
  | .bit_7_L => hBitR .i7 .l
  | .bit_7_mHL => hBitM .none .i7 0
  | .bit_7_A => hBitR .i7 .a
  | .res_0_B => hResR .i0 .b
  | .res_0_C => hResR .i0 .c
  | .res_0_D => hResR .i0 .d
  | .res_0_E => hResR .i0 .e
  | .res_0_H => hResR .i0 .h
  | .res_0_L => hResR .i0 .l
  | .res_0_mHL => hResM .none .i0 0
  | .res_0_A => hResR .i0 .a
  | .res_1_B => hResR .i1 .b
  | .res_1_C => hResR .i1 .c
  | .res_1_D => hResR .i1 .d
  | .res_1_E => hResR .i1 .e
  | .res_1_H => hResR .i1 .h
  | .res_1_L => hResR .i1 .l
  | .res_1_mHL => hResM .none .i1 0
  | .res_1_A => hResR .i1 .a
  | .res_2_B => hResR .i2 .b
  | .res_2_C => hResR .i2 .c
  | .res_2_D => hResR .i2 .d
  | .res_2_E => hResR .i2 .e
  | .res_2_H => hResR .i2 .h
  | .res_2_L => hResR .i2 .l
  | .res_2_mHL => hResM .none .i2 0
  | .res_2_A => hResR .i2 .a
  | .res_3_B => hResR .i3 .b
  | .res_3_C => hResR .i3 .c
  | .res_3_D => hResR .i3 .d
  | .res_3_E => hResR .i3 .e
  | .res_3_H => hResR .i3 .h
  | .res_3_L => hResR .i3 .l
  | .res_3_mHL => hResM .none .i3 0
  | .res_3_A => hResR .i3 .a
  | .res_4_B => hResR .i4 .b
  | .res_4_C => hResR .i4 .c
  | .res_4_D => hResR .i4 .d
  | .res_4_E => hResR .i4 .e
  | .res_4_H => hResR .i4 .h
  | .res_4_L => hResR .i4 .l
  | .res_4_mHL => hResM .none .i4 0
  | .res_4_A => hResR .i4 .a
  | .res_5_B => hResR .i5 .b
  | .res_5_C => hResR .i5 .c
  | .res_5_D => hResR .i5 .d
  | .res_5_E => hResR .i5 .e
  | .res_5_H => hResR .i5 .h
  | .res_5_L => hResR .i5 .l
  | .res_5_mHL => hResM .none .i5 0
  | .res_5_A => hResR .i5 .a
  | .res_6_B => hResR .i6 .b
  | .res_6_C => hResR .i6 .c
  | .res_6_D => hResR .i6 .d
  | .res_6_E => hResR .i6 .e
  | .res_6_H => hResR .i6 .h
  | .res_6_L => hResR .i6 .l
  | .res_6_mHL => hResM .none .i6 0
  | .res_6_A => hResR .i6 .a
  | .res_7_B => hResR .i7 .b
  | .res_7_C => hResR .i7 .c
  | .res_7_D => hResR .i7 .d
  | .res_7_E => hResR .i7 .e
  | .res_7_H => hResR .i7 .h
  | .res_7_L => hResR .i7 .l
  | .res_7_mHL => hResM .none .i7 0
  | .res_7_A => hResR .i7 .a
  | .set_0_B => hSetR .i0 .b
  | .set_0_C => hSetR .i0 .c
  | .set_0_D => hSetR .i0 .d
  | .set_0_E => hSetR .i0 .e
  | .set_0_H => hSetR .i0 .h
  | .set_0_L => hSetR .i0 .l
  | .set_0_mHL => hSetM .none .i0 0
  | .set_0_A => hSetR .i0 .a
  | .set_1_B => hSetR .i1 .b
  | .set_1_C => hSetR .i1 .c
  | .set_1_D => hSetR .i1 .d
  | .set_1_E => hSetR .i1 .e
  | .set_1_H => hSetR .i1 .h
  | .set_1_L => hSetR .i1 .l
  | .set_1_mHL => hSetM .none .i1 0
  | .set_1_A => hSetR .i1 .a
  | .set_2_B => hSetR .i2 .b
  | .set_2_C => hSetR .i2 .c
  | .set_2_D => hSetR .i2 .d
  | .set_2_E => hSetR .i2 .e
  | .set_2_H => hSetR .i2 .h
  | .set_2_L => hSetR .i2 .l
  | .set_2_mHL => hSetM .none .i2 0
  | .set_2_A => hSetR .i2 .a
  | .set_3_B => hSetR .i3 .b
  | .set_3_C => hSetR .i3 .c
  | .set_3_D => hSetR .i3 .d
  | .set_3_E => hSetR .i3 .e
  | .set_3_H => hSetR .i3 .h
  | .set_3_L => hSetR .i3 .l
  | .set_3_mHL => hSetM .none .i3 0
  | .set_3_A => hSetR .i3 .a
  | .set_4_B => hSetR .i4 .b
  | .set_4_C => hSetR .i4 .c
  | .set_4_D => hSetR .i4 .d
  | .set_4_E => hSetR .i4 .e
  | .set_4_H => hSetR .i4 .h
  | .set_4_L => hSetR .i4 .l
  | .set_4_mHL => hSetM .none .i4 0
  | .set_4_A => hSetR .i4 .a
  | .set_5_B => hSetR .i5 .b
  | .set_5_C => hSetR .i5 .c
  | .set_5_D => hSetR .i5 .d
  | .set_5_E => hSetR .i5 .e
  | .set_5_H => hSetR .i5 .h
  | .set_5_L => hSetR .i5 .l
  | .set_5_mHL => hSetM .none .i5 0
  | .set_5_A => hSetR .i5 .a
  | .set_6_B => hSetR .i6 .b
  | .set_6_C => hSetR .i6 .c
  | .set_6_D => hSetR .i6 .d
  | .set_6_E => hSetR .i6 .e
  | .set_6_H => hSetR .i6 .h
  | .set_6_L => hSetR .i6 .l
  | .set_6_mHL => hSetM .none .i6 0
  | .set_6_A => hSetR .i6 .a
  | .set_7_B => hSetR .i7 .b
  | .set_7_C => hSetR .i7 .c
  | .set_7_D => hSetR .i7 .d
  | .set_7_E => hSetR .i7 .e
  | .set_7_H => hSetR .i7 .h
  | .set_7_L => hSetR .i7 .l
  | .set_7_mHL => hSetM .none .i7 0
  | .set_7_A => hSetR .i7 .a
  | .in_B_pC => hInR .b
  | .out_pC_B => hOutR .b
  | .sbc_HL_BC => hSbcHl .bc
  | .neg => hNeg
  | .retn => hRetn
  | .im_0 => hIm .im0
  | .ld_I_A => hLdIA
  | .in_C_pC => hInR .c
  | .out_pC_C => hOutR .c
  | .adc_HL_BC => hAdcHl .bc
  | .reti => hReti
  | .ld_R_A => hLdRA
  | .in_D_pC => hInR .d
  | .out_pC_D => hOutR .d
  | .sbc_HL_DE => hSbcHl .de
  | .im_1 => hIm .im1
  | .ld_A_I => hLdAI
  | .in_E_pC => hInR .e
  | .out_pC_E => hOutR .e
  | .adc_HL_DE => hAdcHl .de
  | .im_2 => hIm .im2
  | .ld_A_R => hLdAR
  | .in_H_pC => hInR .h
  | .out_pC_H => hOutR .h
  | .sbc_HL_HL => hSbcHl .hl
  | .rrd => hRrd
  | .in_L_pC => hInR .l
  | .out_pC_L => hOutR .l
  | .adc_HL_HL => hAdcHl .hl
  | .rld => hRld
  | .sbc_HL_SP => hSbcHl .sp
  | .in_A_pC => hInR .a
  | .out_pC_A => hOutR .a
  | .adc_HL_SP => hAdcHl .sp
  | .ldi => hLdi
  | .cpi => hCpi
  | .ini => hIni
  | .outi => hOuti
  | .ldd => hLdd
  | .cpd => hCpd
  | .ind => hInd
  | .outd => hOutd
  | .ldir => hLdir
  | .cpir => hCpir
  | .inir => hInir
  | .otir => hOtir
  | .lddr => hLddr
  | .cpdr => hCpdr
  | .indr => hIndr
  | .otdr => hOtdr
  | .add_IX_BC => hAddHl .ix .bc
  | .add_IX_DE => hAddHl .ix .de
  | .inc_IX => hIncRp .ix .hl
  | .inc_IXh => hIncR .ix .h
  | .dec_IXh => hDecR .ix .h
  | .add_IX_IX => hAddHl .ix .hl
  | .dec_IX => hDecRp .ix .hl
  | .inc_IXl => hIncR .ix .l
  | .dec_IXl => hDecR .ix .l
  | .add_IX_SP => hAddHl .ix .sp
  | .ld_B_IXh => hLdRR .ix .b .h
  | .ld_B_IXl => hLdRR .ix .b .l
  | .ld_C_IXh => hLdRR .ix .c .h
  | .ld_C_IXl => hLdRR .ix .c .l
  | .ld_D_IXh => hLdRR .ix .d .h
  | .ld_D_IXl => hLdRR .ix .d .l
  | .ld_E_IXh => hLdRR .ix .e .h
  | .ld_E_IXl => hLdRR .ix .e .l
  | .ld_IXh_B => hLdRR .ix .h .b
  | .ld_IXh_C => hLdRR .ix .h .c
  | .ld_IXh_D => hLdRR .ix .h .d
  | .ld_IXh_E => hLdRR .ix .h .e
  | .ld_IXh_IXh => hLdRR .ix .h .h
  | .ld_IXh_IXl => hLdRR .ix .h .l
  | .ld_IXh_A => hLdRR .ix .h .a
  | .ld_IXl_B => hLdRR .ix .l .b
  | .ld_IXl_C => hLdRR .ix .l .c
  | .ld_IXl_D => hLdRR .ix .l .d
  | .ld_IXl_E => hLdRR .ix .l .e
  | .ld_IXl_IXh => hLdRR .ix .l .h
  | .ld_IXl_IXl => hLdRR .ix .l .l
  | .ld_IXl_A => hLdRR .ix .l .a
  | .ld_A_IXh => hLdRR .ix .a .h
  | .ld_A_IXl => hLdRR .ix .a .l
  | .add_A_IXh => hAluR .ix .add .h
  | .add_A_IXl => hAluR .ix .add .l
  | .adc_A_IXh => hAluR .ix .adc .h
  | .adc_A_IXl => hAluR .ix .adc .l
  | .sub_IXh => hAluR .ix .sub .h
  | .sub_IXl => hAluR .ix .sub .l
  | .sbc_A_IXh => hAluR .ix .sbc .h
  | .sbc_A_IXl => hAluR .ix .sbc .l
  | .and_IXh => hAluR .ix .and .h
  | .and_IXl => hAluR .ix .and .l
  | .xor_IXh => hAluR .ix .xor .h
  | .xor_IXl => hAluR .ix .xor .l
  | .or_IXh => hAluR .ix .or .h
  | .or_IXl => hAluR .ix .or .l
  | .cp_IXh => hAluR .ix .cp .h
  | .cp_IXl => hAluR .ix .cp .l
  | .pop_IX => hPop .ix .hl
  | .ex_mSP_IX => hExSp .ix
  | .push_IX => hPush .ix .hl
  | .jp_mIX => hJpHl .ix
  | .ld_SP_IX => hLdSpHl .ix
  | .add_IY_BC => hAddHl .iy .bc
  | .add_IY_DE => hAddHl .iy .de
  | .inc_IY => hIncRp .iy .hl
  | .inc_IYh => hIncR .iy .h
  | .dec_IYh => hDecR .iy .h
  | .add_IY_IY => hAddHl .iy .hl
  | .dec_IY => hDecRp .iy .hl
  | .inc_IYl => hIncR .iy .l
  | .dec_IYl => hDecR .iy .l
  | .add_IY_SP => hAddHl .iy .sp
  | .ld_B_IYh => hLdRR .iy .b .h
  | .ld_B_IYl => hLdRR .iy .b .l
  | .ld_C_IYh => hLdRR .iy .c .h
  | .ld_C_IYl => hLdRR .iy .c .l
  | .ld_D_IYh => hLdRR .iy .d .h
  | .ld_D_IYl => hLdRR .iy .d .l
  | .ld_E_IYh => hLdRR .iy .e .h
  | .ld_E_IYl => hLdRR .iy .e .l
  | .ld_IYh_B => hLdRR .iy .h .b
  | .ld_IYh_C => hLdRR .iy .h .c
  | .ld_IYh_D => hLdRR .iy .h .d
  | .ld_IYh_E => hLdRR .iy .h .e
  | .ld_IYh_IYh => hLdRR .iy .h .h
  | .ld_IYh_IYl => hLdRR .iy .h .l
  | .ld_IYh_A => hLdRR .iy .h .a
  | .ld_IYl_B => hLdRR .iy .l .b
  | .ld_IYl_C => hLdRR .iy .l .c
  | .ld_IYl_D => hLdRR .iy .l .d
  | .ld_IYl_E => hLdRR .iy .l .e
  | .ld_IYl_IYh => hLdRR .iy .l .h
  | .ld_IYl_IYl => hLdRR .iy .l .l
  | .ld_IYl_A => hLdRR .iy .l .a
  | .ld_A_IYh => hLdRR .iy .a .h
  | .ld_A_IYl => hLdRR .iy .a .l
  | .add_A_IYh => hAluR .iy .add .h
  | .add_A_IYl => hAluR .iy .add .l
  | .adc_A_IYh => hAluR .iy .adc .h
  | .adc_A_IYl => hAluR .iy .adc .l
  | .sub_IYh => hAluR .iy .sub .h
  | .sub_IYl => hAluR .iy .sub .l
  | .sbc_A_IYh => hAluR .iy .sbc .h
  | .sbc_A_IYl => hAluR .iy .sbc .l
  | .and_IYh => hAluR .iy .and .h
  | .and_IYl => hAluR .iy .and .l
  | .xor_IYh => hAluR .iy .xor .h
  | .xor_IYl => hAluR .iy .xor .l
  | .or_IYh => hAluR .iy .or .h
  | .or_IYl => hAluR .iy .or .l
  | .cp_IYh => hAluR .iy .cp .h
  | .cp_IYl => hAluR .iy .cp .l
  | .pop_IY => hPop .iy .hl
  | .ex_mSP_IY => hExSp .iy
  | .push_IY => hPush .iy .hl
  | .jp_mIY => hJpHl .iy
  | .ld_SP_IY => hLdSpHl .iy

end Sys2Proof.Machine
end

