-- ==== Sys2Proof/Laws/State.lean ====
section
/-! SUPPORT. What each named update of the state does to each field, so that no proof unfolds a record update. -/

namespace Sys2Proof.Machine

@[simp] theorem State.addT_a (n : Nat) (s : State) : (State.addT n s).a = s.a := rfl
@[simp] theorem State.addT_f (n : Nat) (s : State) : (State.addT n s).f = s.f := rfl
@[simp] theorem State.addT_b (n : Nat) (s : State) : (State.addT n s).b = s.b := rfl
@[simp] theorem State.addT_c (n : Nat) (s : State) : (State.addT n s).c = s.c := rfl
@[simp] theorem State.addT_d (n : Nat) (s : State) : (State.addT n s).d = s.d := rfl
@[simp] theorem State.addT_e (n : Nat) (s : State) : (State.addT n s).e = s.e := rfl
@[simp] theorem State.addT_h (n : Nat) (s : State) : (State.addT n s).h = s.h := rfl
@[simp] theorem State.addT_l (n : Nat) (s : State) : (State.addT n s).l = s.l := rfl
@[simp] theorem State.addT_aAlt (n : Nat) (s : State) : (State.addT n s).aAlt = s.aAlt := rfl
@[simp] theorem State.addT_fAlt (n : Nat) (s : State) : (State.addT n s).fAlt = s.fAlt := rfl
@[simp] theorem State.addT_bAlt (n : Nat) (s : State) : (State.addT n s).bAlt = s.bAlt := rfl
@[simp] theorem State.addT_cAlt (n : Nat) (s : State) : (State.addT n s).cAlt = s.cAlt := rfl
@[simp] theorem State.addT_dAlt (n : Nat) (s : State) : (State.addT n s).dAlt = s.dAlt := rfl
@[simp] theorem State.addT_eAlt (n : Nat) (s : State) : (State.addT n s).eAlt = s.eAlt := rfl
@[simp] theorem State.addT_hAlt (n : Nat) (s : State) : (State.addT n s).hAlt = s.hAlt := rfl
@[simp] theorem State.addT_lAlt (n : Nat) (s : State) : (State.addT n s).lAlt = s.lAlt := rfl
@[simp] theorem State.addT_ix (n : Nat) (s : State) : (State.addT n s).ix = s.ix := rfl
@[simp] theorem State.addT_iy (n : Nat) (s : State) : (State.addT n s).iy = s.iy := rfl
@[simp] theorem State.addT_sp (n : Nat) (s : State) : (State.addT n s).sp = s.sp := rfl
@[simp] theorem State.addT_pc (n : Nat) (s : State) : (State.addT n s).pc = s.pc := rfl
@[simp] theorem State.addT_i (n : Nat) (s : State) : (State.addT n s).i = s.i := rfl
@[simp] theorem State.addT_r (n : Nat) (s : State) : (State.addT n s).r = s.r := rfl
@[simp] theorem State.addT_iff1 (n : Nat) (s : State) : (State.addT n s).iff1 = s.iff1 := rfl
@[simp] theorem State.addT_iff2 (n : Nat) (s : State) : (State.addT n s).iff2 = s.iff2 := rfl
@[simp] theorem State.addT_im (n : Nat) (s : State) : (State.addT n s).im = s.im := rfl
@[simp] theorem State.addT_eiDiDelay (n : Nat) (s : State) : (State.addT n s).eiDiDelay = s.eiDiDelay := rfl
@[simp] theorem State.addT_halted (n : Nat) (s : State) : (State.addT n s).halted = s.halted := rfl
@[simp] theorem State.addT_tstates (n : Nat) (s : State) : (State.addT n s).tstates = s.tstates + n := rfl
@[simp] theorem State.addT_inService (n : Nat) (s : State) : (State.addT n s).inService = s.inService := rfl
@[simp] theorem State.addT_fault (n : Nat) (s : State) : (State.addT n s).fault = s.fault := rfl
@[simp] theorem State.addT_mem (n : Nat) (s : State) : (State.addT n s).mem = s.mem := rfl
@[simp] theorem State.addT_params (n : Nat) (s : State) : (State.addT n s).params = s.params := rfl
@[simp] theorem State.addT_start (n : Nat) (s : State) : (State.addT n s).start = s.start := rfl
@[simp] theorem State.addT_ioIn (n : Nat) (s : State) : (State.addT n s).ioIn = s.ioIn := rfl
@[simp] theorem State.addT_irqs (n : Nat) (s : State) : (State.addT n s).irqs = s.irqs := rfl
@[simp] theorem State.addT_adapterErrs (n : Nat) (s : State) : (State.addT n s).adapterErrs = s.adapterErrs := rfl
@[simp] theorem State.addT_trace (n : Nat) (s : State) : (State.addT n s).trace = s.trace := rfl
@[simp] theorem State.addT_draws (n : Nat) (s : State) : (State.addT n s).draws = s.draws := rfl

@[simp] theorem State.setPC_a (v : Word) (s : State) : (State.setPC v s).a = s.a := rfl
@[simp] theorem State.setPC_f (v : Word) (s : State) : (State.setPC v s).f = s.f := rfl
@[simp] theorem State.setPC_b (v : Word) (s : State) : (State.setPC v s).b = s.b := rfl
@[simp] theorem State.setPC_c (v : Word) (s : State) : (State.setPC v s).c = s.c := rfl
@[simp] theorem State.setPC_d (v : Word) (s : State) : (State.setPC v s).d = s.d := rfl
@[simp] theorem State.setPC_e (v : Word) (s : State) : (State.setPC v s).e = s.e := rfl
@[simp] theorem State.setPC_h (v : Word) (s : State) : (State.setPC v s).h = s.h := rfl
@[simp] theorem State.setPC_l (v : Word) (s : State) : (State.setPC v s).l = s.l := rfl
@[simp] theorem State.setPC_aAlt (v : Word) (s : State) : (State.setPC v s).aAlt = s.aAlt := rfl
@[simp] theorem State.setPC_fAlt (v : Word) (s : State) : (State.setPC v s).fAlt = s.fAlt := rfl
@[simp] theorem State.setPC_bAlt (v : Word) (s : State) : (State.setPC v s).bAlt = s.bAlt := rfl
@[simp] theorem State.setPC_cAlt (v : Word) (s : State) : (State.setPC v s).cAlt = s.cAlt := rfl
@[simp] theorem State.setPC_dAlt (v : Word) (s : State) : (State.setPC v s).dAlt = s.dAlt := rfl
@[simp] theorem State.setPC_eAlt (v : Word) (s : State) : (State.setPC v s).eAlt = s.eAlt := rfl
@[simp] theorem State.setPC_hAlt (v : Word) (s : State) : (State.setPC v s).hAlt = s.hAlt := rfl
@[simp] theorem State.setPC_lAlt (v : Word) (s : State) : (State.setPC v s).lAlt = s.lAlt := rfl
@[simp] theorem State.setPC_ix (v : Word) (s : State) : (State.setPC v s).ix = s.ix := rfl
@[simp] theorem State.setPC_iy (v : Word) (s : State) : (State.setPC v s).iy = s.iy := rfl
@[simp] theorem State.setPC_sp (v : Word) (s : State) : (State.setPC v s).sp = s.sp := rfl
@[simp] theorem State.setPC_pc (v : Word) (s : State) : (State.setPC v s).pc = v := rfl
@[simp] theorem State.setPC_i (v : Word) (s : State) : (State.setPC v s).i = s.i := rfl
@[simp] theorem State.setPC_r (v : Word) (s : State) : (State.setPC v s).r = s.r := rfl
@[simp] theorem State.setPC_iff1 (v : Word) (s : State) : (State.setPC v s).iff1 = s.iff1 := rfl
@[simp] theorem State.setPC_iff2 (v : Word) (s : State) : (State.setPC v s).iff2 = s.iff2 := rfl
@[simp] theorem State.setPC_im (v : Word) (s : State) : (State.setPC v s).im = s.im := rfl
@[simp] theorem State.setPC_eiDiDelay (v : Word) (s : State) : (State.setPC v s).eiDiDelay = s.eiDiDelay := rfl
@[simp] theorem State.setPC_halted (v : Word) (s : State) : (State.setPC v s).halted = s.halted := rfl
@[simp] theorem State.setPC_tstates (v : Word) (s : State) : (State.setPC v s).tstates = s.tstates := rfl
@[simp] theorem State.setPC_inService (v : Word) (s : State) : (State.setPC v s).inService = s.inService := rfl
@[simp] theorem State.setPC_fault (v : Word) (s : State) : (State.setPC v s).fault = s.fault := rfl
@[simp] theorem State.setPC_mem (v : Word) (s : State) : (State.setPC v s).mem = s.mem := rfl
@[simp] theorem State.setPC_params (v : Word) (s : State) : (State.setPC v s).params = s.params := rfl
@[simp] theorem State.setPC_start (v : Word) (s : State) : (State.setPC v s).start = s.start := rfl
@[simp] theorem State.setPC_ioIn (v : Word) (s : State) : (State.setPC v s).ioIn = s.ioIn := rfl
@[simp] theorem State.setPC_irqs (v : Word) (s : State) : (State.setPC v s).irqs = s.irqs := rfl
@[simp] theorem State.setPC_adapterErrs (v : Word) (s : State) : (State.setPC v s).adapterErrs = s.adapterErrs := rfl
@[simp] theorem State.setPC_trace (v : Word) (s : State) : (State.setPC v s).trace = s.trace := rfl
@[simp] theorem State.setPC_draws (v : Word) (s : State) : (State.setPC v s).draws = s.draws := rfl

@[simp] theorem State.setAF_a (p : Byte × Flags) (s : State) : (State.setAF p s).a = p.1 := rfl
@[simp] theorem State.setAF_f (p : Byte × Flags) (s : State) : (State.setAF p s).f = p.2 := rfl
@[simp] theorem State.setAF_b (p : Byte × Flags) (s : State) : (State.setAF p s).b = s.b := rfl
@[simp] theorem State.setAF_c (p : Byte × Flags) (s : State) : (State.setAF p s).c = s.c := rfl
@[simp] theorem State.setAF_d (p : Byte × Flags) (s : State) : (State.setAF p s).d = s.d := rfl
@[simp] theorem State.setAF_e (p : Byte × Flags) (s : State) : (State.setAF p s).e = s.e := rfl
@[simp] theorem State.setAF_h (p : Byte × Flags) (s : State) : (State.setAF p s).h = s.h := rfl
@[simp] theorem State.setAF_l (p : Byte × Flags) (s : State) : (State.setAF p s).l = s.l := rfl
@[simp] theorem State.setAF_aAlt (p : Byte × Flags) (s : State) : (State.setAF p s).aAlt = s.aAlt := rfl
@[simp] theorem State.setAF_fAlt (p : Byte × Flags) (s : State) : (State.setAF p s).fAlt = s.fAlt := rfl
@[simp] theorem State.setAF_bAlt (p : Byte × Flags) (s : State) : (State.setAF p s).bAlt = s.bAlt := rfl
@[simp] theorem State.setAF_cAlt (p : Byte × Flags) (s : State) : (State.setAF p s).cAlt = s.cAlt := rfl
@[simp] theorem State.setAF_dAlt (p : Byte × Flags) (s : State) : (State.setAF p s).dAlt = s.dAlt := rfl
@[simp] theorem State.setAF_eAlt (p : Byte × Flags) (s : State) : (State.setAF p s).eAlt = s.eAlt := rfl
@[simp] theorem State.setAF_hAlt (p : Byte × Flags) (s : State) : (State.setAF p s).hAlt = s.hAlt := rfl
@[simp] theorem State.setAF_lAlt (p : Byte × Flags) (s : State) : (State.setAF p s).lAlt = s.lAlt := rfl
@[simp] theorem State.setAF_ix (p : Byte × Flags) (s : State) : (State.setAF p s).ix = s.ix := rfl
@[simp] theorem State.setAF_iy (p : Byte × Flags) (s : State) : (State.setAF p s).iy = s.iy := rfl
@[simp] theorem State.setAF_sp (p : Byte × Flags) (s : State) : (State.setAF p s).sp = s.sp := rfl
@[simp] theorem State.setAF_pc (p : Byte × Flags) (s : State) : (State.setAF p s).pc = s.pc := rfl
@[simp] theorem State.setAF_i (p : Byte × Flags) (s : State) : (State.setAF p s).i = s.i := rfl
@[simp] theorem State.setAF_r (p : Byte × Flags) (s : State) : (State.setAF p s).r = s.r := rfl
@[simp] theorem State.setAF_iff1 (p : Byte × Flags) (s : State) : (State.setAF p s).iff1 = s.iff1 := rfl
@[simp] theorem State.setAF_iff2 (p : Byte × Flags) (s : State) : (State.setAF p s).iff2 = s.iff2 := rfl
@[simp] theorem State.setAF_im (p : Byte × Flags) (s : State) : (State.setAF p s).im = s.im := rfl
@[simp] theorem State.setAF_eiDiDelay (p : Byte × Flags) (s : State) : (State.setAF p s).eiDiDelay = s.eiDiDelay := rfl
@[simp] theorem State.setAF_halted (p : Byte × Flags) (s : State) : (State.setAF p s).halted = s.halted := rfl
@[simp] theorem State.setAF_tstates (p : Byte × Flags) (s : State) : (State.setAF p s).tstates = s.tstates := rfl
@[simp] theorem State.setAF_inService (p : Byte × Flags) (s : State) : (State.setAF p s).inService = s.inService := rfl
@[simp] theorem State.setAF_fault (p : Byte × Flags) (s : State) : (State.setAF p s).fault = s.fault := rfl
@[simp] theorem State.setAF_mem (p : Byte × Flags) (s : State) : (State.setAF p s).mem = s.mem := rfl
@[simp] theorem State.setAF_params (p : Byte × Flags) (s : State) : (State.setAF p s).params = s.params := rfl
@[simp] theorem State.setAF_start (p : Byte × Flags) (s : State) : (State.setAF p s).start = s.start := rfl
@[simp] theorem State.setAF_ioIn (p : Byte × Flags) (s : State) : (State.setAF p s).ioIn = s.ioIn := rfl
@[simp] theorem State.setAF_irqs (p : Byte × Flags) (s : State) : (State.setAF p s).irqs = s.irqs := rfl
@[simp] theorem State.setAF_adapterErrs (p : Byte × Flags) (s : State) : (State.setAF p s).adapterErrs = s.adapterErrs := rfl
@[simp] theorem State.setAF_trace (p : Byte × Flags) (s : State) : (State.setAF p s).trace = s.trace := rfl
@[simp] theorem State.setAF_draws (p : Byte × Flags) (s : State) : (State.setAF p s).draws = s.draws := rfl

@[simp] theorem State.setF_a (g : Flags) (s : State) : (State.setF g s).a = s.a := rfl
@[simp] theorem State.setF_f (g : Flags) (s : State) : (State.setF g s).f = g := rfl
@[simp] theorem State.setF_b (g : Flags) (s : State) : (State.setF g s).b = s.b := rfl
@[simp] theorem State.setF_c (g : Flags) (s : State) : (State.setF g s).c = s.c := rfl
@[simp] theorem State.setF_d (g : Flags) (s : State) : (State.setF g s).d = s.d := rfl
@[simp] theorem State.setF_e (g : Flags) (s : State) : (State.setF g s).e = s.e := rfl
@[simp] theorem State.setF_h (g : Flags) (s : State) : (State.setF g s).h = s.h := rfl
@[simp] theorem State.setF_l (g : Flags) (s : State) : (State.setF g s).l = s.l := rfl
@[simp] theorem State.setF_aAlt (g : Flags) (s : State) : (State.setF g s).aAlt = s.aAlt := rfl
@[simp] theorem State.setF_fAlt (g : Flags) (s : State) : (State.setF g s).fAlt = s.fAlt := rfl
@[simp] theorem State.setF_bAlt (g : Flags) (s : State) : (State.setF g s).bAlt = s.bAlt := rfl
@[simp] theorem State.setF_cAlt (g : Flags) (s : State) : (State.setF g s).cAlt = s.cAlt := rfl
@[simp] theorem State.setF_dAlt (g : Flags) (s : State) : (State.setF g s).dAlt = s.dAlt := rfl
@[simp] theorem State.setF_eAlt (g : Flags) (s : State) : (State.setF g s).eAlt = s.eAlt := rfl
@[simp] theorem State.setF_hAlt (g : Flags) (s : State) : (State.setF g s).hAlt = s.hAlt := rfl
@[simp] theorem State.setF_lAlt (g : Flags) (s : State) : (State.setF g s).lAlt = s.lAlt := rfl
@[simp] theorem State.setF_ix (g : Flags) (s : State) : (State.setF g s).ix = s.ix := rfl
@[simp] theorem State.setF_iy (g : Flags) (s : State) : (State.setF g s).iy = s.iy := rfl
@[simp] theorem State.setF_sp (g : Flags) (s : State) : (State.setF g s).sp = s.sp := rfl
@[simp] theorem State.setF_pc (g : Flags) (s : State) : (State.setF g s).pc = s.pc := rfl
@[simp] theorem State.setF_i (g : Flags) (s : State) : (State.setF g s).i = s.i := rfl
@[simp] theorem State.setF_r (g : Flags) (s : State) : (State.setF g s).r = s.r := rfl
@[simp] theorem State.setF_iff1 (g : Flags) (s : State) : (State.setF g s).iff1 = s.iff1 := rfl
@[simp] theorem State.setF_iff2 (g : Flags) (s : State) : (State.setF g s).iff2 = s.iff2 := rfl
@[simp] theorem State.setF_im (g : Flags) (s : State) : (State.setF g s).im = s.im := rfl
@[simp] theorem State.setF_eiDiDelay (g : Flags) (s : State) : (State.setF g s).eiDiDelay = s.eiDiDelay := rfl
@[simp] theorem State.setF_halted (g : Flags) (s : State) : (State.setF g s).halted = s.halted := rfl
@[simp] theorem State.setF_tstates (g : Flags) (s : State) : (State.setF g s).tstates = s.tstates := rfl
@[simp] theorem State.setF_inService (g : Flags) (s : State) : (State.setF g s).inService = s.inService := rfl
@[simp] theorem State.setF_fault (g : Flags) (s : State) : (State.setF g s).fault = s.fault := rfl
@[simp] theorem State.setF_mem (g : Flags) (s : State) : (State.setF g s).mem = s.mem := rfl
@[simp] theorem State.setF_params (g : Flags) (s : State) : (State.setF g s).params = s.params := rfl
@[simp] theorem State.setF_start (g : Flags) (s : State) : (State.setF g s).start = s.start := rfl
@[simp] theorem State.setF_ioIn (g : Flags) (s : State) : (State.setF g s).ioIn = s.ioIn := rfl
@[simp] theorem State.setF_irqs (g : Flags) (s : State) : (State.setF g s).irqs = s.irqs := rfl
@[simp] theorem State.setF_adapterErrs (g : Flags) (s : State) : (State.setF g s).adapterErrs = s.adapterErrs := rfl
@[simp] theorem State.setF_trace (g : Flags) (s : State) : (State.setF g s).trace = s.trace := rfl
@[simp] theorem State.setF_draws (g : Flags) (s : State) : (State.setF g s).draws = s.draws := rfl

@[simp] theorem State.incR_a (s : State) : (State.incR s).a = s.a := rfl
@[simp] theorem State.incR_f (s : State) : (State.incR s).f = s.f := rfl
@[simp] theorem State.incR_b (s : State) : (State.incR s).b = s.b := rfl
@[simp] theorem State.incR_c (s : State) : (State.incR s).c = s.c := rfl
@[simp] theorem State.incR_d (s : State) : (State.incR s).d = s.d := rfl
@[simp] theorem State.incR_e (s : State) : (State.incR s).e = s.e := rfl
@[simp] theorem State.incR_h (s : State) : (State.incR s).h = s.h := rfl
@[simp] theorem State.incR_l (s : State) : (State.incR s).l = s.l := rfl
@[simp] theorem State.incR_aAlt (s : State) : (State.incR s).aAlt = s.aAlt := rfl
@[simp] theorem State.incR_fAlt (s : State) : (State.incR s).fAlt = s.fAlt := rfl
@[simp] theorem State.incR_bAlt (s : State) : (State.incR s).bAlt = s.bAlt := rfl
@[simp] theorem State.incR_cAlt (s : State) : (State.incR s).cAlt = s.cAlt := rfl
@[simp] theorem State.incR_dAlt (s : State) : (State.incR s).dAlt = s.dAlt := rfl
@[simp] theorem State.incR_eAlt (s : State) : (State.incR s).eAlt = s.eAlt := rfl
@[simp] theorem State.incR_hAlt (s : State) : (State.incR s).hAlt = s.hAlt := rfl
@[simp] theorem State.incR_lAlt (s : State) : (State.incR s).lAlt = s.lAlt := rfl
@[simp] theorem State.incR_ix (s : State) : (State.incR s).ix = s.ix := rfl
@[simp] theorem State.incR_iy (s : State) : (State.incR s).iy = s.iy := rfl
@[simp] theorem State.incR_sp (s : State) : (State.incR s).sp = s.sp := rfl
@[simp] theorem State.incR_pc (s : State) : (State.incR s).pc = s.pc := rfl
@[simp] theorem State.incR_i (s : State) : (State.incR s).i = s.i := rfl
@[simp] theorem State.incR_r (s : State) : (State.incR s).r = nextR s.r := rfl
@[simp] theorem State.incR_iff1 (s : State) : (State.incR s).iff1 = s.iff1 := rfl
@[simp] theorem State.incR_iff2 (s : State) : (State.incR s).iff2 = s.iff2 := rfl
@[simp] theorem State.incR_im (s : State) : (State.incR s).im = s.im := rfl
@[simp] theorem State.incR_eiDiDelay (s : State) : (State.incR s).eiDiDelay = s.eiDiDelay := rfl
@[simp] theorem State.incR_halted (s : State) : (State.incR s).halted = s.halted := rfl
@[simp] theorem State.incR_tstates (s : State) : (State.incR s).tstates = s.tstates := rfl
@[simp] theorem State.incR_inService (s : State) : (State.incR s).inService = s.inService := rfl
@[simp] theorem State.incR_fault (s : State) : (State.incR s).fault = s.fault := rfl
@[simp] theorem State.incR_mem (s : State) : (State.incR s).mem = s.mem := rfl
@[simp] theorem State.incR_params (s : State) : (State.incR s).params = s.params := rfl
@[simp] theorem State.incR_start (s : State) : (State.incR s).start = s.start := rfl
@[simp] theorem State.incR_ioIn (s : State) : (State.incR s).ioIn = s.ioIn := rfl
@[simp] theorem State.incR_irqs (s : State) : (State.incR s).irqs = s.irqs := rfl
@[simp] theorem State.incR_adapterErrs (s : State) : (State.incR s).adapterErrs = s.adapterErrs := rfl
@[simp] theorem State.incR_trace (s : State) : (State.incR s).trace = s.trace := rfl
@[simp] theorem State.incR_draws (s : State) : (State.incR s).draws = s.draws := rfl

@[simp] theorem State.store_a (a : Word) (v : Byte) (s : State) : (State.store a v s).a = s.a := rfl
@[simp] theorem State.store_f (a : Word) (v : Byte) (s : State) : (State.store a v s).f = s.f := rfl
@[simp] theorem State.store_b (a : Word) (v : Byte) (s : State) : (State.store a v s).b = s.b := rfl
@[simp] theorem State.store_c (a : Word) (v : Byte) (s : State) : (State.store a v s).c = s.c := rfl
@[simp] theorem State.store_d (a : Word) (v : Byte) (s : State) : (State.store a v s).d = s.d := rfl
@[simp] theorem State.store_e (a : Word) (v : Byte) (s : State) : (State.store a v s).e = s.e := rfl
@[simp] theorem State.store_h (a : Word) (v : Byte) (s : State) : (State.store a v s).h = s.h := rfl
@[simp] theorem State.store_l (a : Word) (v : Byte) (s : State) : (State.store a v s).l = s.l := rfl
@[simp] theorem State.store_aAlt (a : Word) (v : Byte) (s : State) : (State.store a v s).aAlt = s.aAlt := rfl
@[simp] theorem State.store_fAlt (a : Word) (v : Byte) (s : State) : (State.store a v s).fAlt = s.fAlt := rfl
@[simp] theorem State.store_bAlt (a : Word) (v : Byte) (s : State) : (State.store a v s).bAlt = s.bAlt := rfl
@[simp] theorem State.store_cAlt (a : Word) (v : Byte) (s : State) : (State.store a v s).cAlt = s.cAlt := rfl
@[simp] theorem State.store_dAlt (a : Word) (v : Byte) (s : State) : (State.store a v s).dAlt = s.dAlt := rfl
@[simp] theorem State.store_eAlt (a : Word) (v : Byte) (s : State) : (State.store a v s).eAlt = s.eAlt := rfl
@[simp] theorem State.store_hAlt (a : Word) (v : Byte) (s : State) : (State.store a v s).hAlt = s.hAlt := rfl
@[simp] theorem State.store_lAlt (a : Word) (v : Byte) (s : State) : (State.store a v s).lAlt = s.lAlt := rfl
@[simp] theorem State.store_ix (a : Word) (v : Byte) (s : State) : (State.store a v s).ix = s.ix := rfl
@[simp] theorem State.store_iy (a : Word) (v : Byte) (s : State) : (State.store a v s).iy = s.iy := rfl
@[simp] theorem State.store_sp (a : Word) (v : Byte) (s : State) : (State.store a v s).sp = s.sp := rfl
@[simp] theorem State.store_pc (a : Word) (v : Byte) (s : State) : (State.store a v s).pc = s.pc := rfl
@[simp] theorem State.store_i (a : Word) (v : Byte) (s : State) : (State.store a v s).i = s.i := rfl
@[simp] theorem State.store_r (a : Word) (v : Byte) (s : State) : (State.store a v s).r = s.r := rfl
@[simp] theorem State.store_iff1 (a : Word) (v : Byte) (s : State) : (State.store a v s).iff1 = s.iff1 := rfl
@[simp] theorem State.store_iff2 (a : Word) (v : Byte) (s : State) : (State.store a v s).iff2 = s.iff2 := rfl
@[simp] theorem State.store_im (a : Word) (v : Byte) (s : State) : (State.store a v s).im = s.im := rfl
@[simp] theorem State.store_eiDiDelay (a : Word) (v : Byte) (s : State) : (State.store a v s).eiDiDelay = s.eiDiDelay := rfl
@[simp] theorem State.store_halted (a : Word) (v : Byte) (s : State) : (State.store a v s).halted = s.halted := rfl
@[simp] theorem State.store_tstates (a : Word) (v : Byte) (s : State) : (State.store a v s).tstates = s.tstates := rfl
@[simp] theorem State.store_inService (a : Word) (v : Byte) (s : State) : (State.store a v s).inService = s.inService := rfl
@[simp] theorem State.store_fault (a : Word) (v : Byte) (s : State) : (State.store a v s).fault = s.fault := rfl
@[simp] theorem State.store_mem (a : Word) (v : Byte) (s : State) : (State.store a v s).mem = s.mem.write a v := rfl
@[simp] theorem State.store_params (a : Word) (v : Byte) (s : State) : (State.store a v s).params = s.params := rfl
@[simp] theorem State.store_start (a : Word) (v : Byte) (s : State) : (State.store a v s).start = s.start := rfl
@[simp] theorem State.store_ioIn (a : Word) (v : Byte) (s : State) : (State.store a v s).ioIn = s.ioIn := rfl
@[simp] theorem State.store_irqs (a : Word) (v : Byte) (s : State) : (State.store a v s).irqs = s.irqs := rfl
@[simp] theorem State.store_adapterErrs (a : Word) (v : Byte) (s : State) : (State.store a v s).adapterErrs = s.adapterErrs := rfl
@[simp] theorem State.store_trace (a : Word) (v : Byte) (s : State) : (State.store a v s).trace = s.trace := rfl
@[simp] theorem State.store_draws (a : Word) (v : Byte) (s : State) : (State.store a v s).draws = s.draws := rfl

@[simp] theorem State.logged_a (ev : BusCall) (s : State) : (State.logged ev s).a = s.a := rfl
@[simp] theorem State.logged_f (ev : BusCall) (s : State) : (State.logged ev s).f = s.f := rfl
@[simp] theorem State.logged_b (ev : BusCall) (s : State) : (State.logged ev s).b = s.b := rfl
@[simp] theorem State.logged_c (ev : BusCall) (s : State) : (State.logged ev s).c = s.c := rfl
@[simp] theorem State.logged_d (ev : BusCall) (s : State) : (State.logged ev s).d = s.d := rfl
@[simp] theorem State.logged_e (ev : BusCall) (s : State) : (State.logged ev s).e = s.e := rfl
@[simp] theorem State.logged_h (ev : BusCall) (s : State) : (State.logged ev s).h = s.h := rfl
@[simp] theorem State.logged_l (ev : BusCall) (s : State) : (State.logged ev s).l = s.l := rfl
@[simp] theorem State.logged_aAlt (ev : BusCall) (s : State) : (State.logged ev s).aAlt = s.aAlt := rfl
@[simp] theorem State.logged_fAlt (ev : BusCall) (s : State) : (State.logged ev s).fAlt = s.fAlt := rfl
@[simp] theorem State.logged_bAlt (ev : BusCall) (s : State) : (State.logged ev s).bAlt = s.bAlt := rfl
@[simp] theorem State.logged_cAlt (ev : BusCall) (s : State) : (State.logged ev s).cAlt = s.cAlt := rfl
@[simp] theorem State.logged_dAlt (ev : BusCall) (s : State) : (State.logged ev s).dAlt = s.dAlt := rfl
@[simp] theorem State.logged_eAlt (ev : BusCall) (s : State) : (State.logged ev s).eAlt = s.eAlt := rfl
@[simp] theorem State.logged_hAlt (ev : BusCall) (s : State) : (State.logged ev s).hAlt = s.hAlt := rfl
@[simp] theorem State.logged_lAlt (ev : BusCall) (s : State) : (State.logged ev s).lAlt = s.lAlt := rfl
@[simp] theorem State.logged_ix (ev : BusCall) (s : State) : (State.logged ev s).ix = s.ix := rfl
@[simp] theorem State.logged_iy (ev : BusCall) (s : State) : (State.logged ev s).iy = s.iy := rfl
@[simp] theorem State.logged_sp (ev : BusCall) (s : State) : (State.logged ev s).sp = s.sp := rfl
@[simp] theorem State.logged_pc (ev : BusCall) (s : State) : (State.logged ev s).pc = s.pc := rfl
@[simp] theorem State.logged_i (ev : BusCall) (s : State) : (State.logged ev s).i = s.i := rfl
@[simp] theorem State.logged_r (ev : BusCall) (s : State) : (State.logged ev s).r = s.r := rfl
@[simp] theorem State.logged_iff1 (ev : BusCall) (s : State) : (State.logged ev s).iff1 = s.iff1 := rfl
@[simp] theorem State.logged_iff2 (ev : BusCall) (s : State) : (State.logged ev s).iff2 = s.iff2 := rfl
@[simp] theorem State.logged_im (ev : BusCall) (s : State) : (State.logged ev s).im = s.im := rfl
@[simp] theorem State.logged_eiDiDelay (ev : BusCall) (s : State) : (State.logged ev s).eiDiDelay = s.eiDiDelay := rfl
@[simp] theorem State.logged_halted (ev : BusCall) (s : State) : (State.logged ev s).halted = s.halted := rfl
@[simp] theorem State.logged_tstates (ev : BusCall) (s : State) : (State.logged ev s).tstates = s.tstates := rfl
@[simp] theorem State.logged_inService (ev : BusCall) (s : State) : (State.logged ev s).inService = s.inService := rfl
@[simp] theorem State.logged_fault (ev : BusCall) (s : State) : (State.logged ev s).fault = s.fault := rfl
@[simp] theorem State.logged_mem (ev : BusCall) (s : State) : (State.logged ev s).mem = s.mem := rfl
@[simp] theorem State.logged_params (ev : BusCall) (s : State) : (State.logged ev s).params = s.params := rfl
@[simp] theorem State.logged_start (ev : BusCall) (s : State) : (State.logged ev s).start = s.start := rfl
@[simp] theorem State.logged_ioIn (ev : BusCall) (s : State) : (State.logged ev s).ioIn = s.ioIn := rfl
@[simp] theorem State.logged_irqs (ev : BusCall) (s : State) : (State.logged ev s).irqs = s.irqs := rfl
@[simp] theorem State.logged_adapterErrs (ev : BusCall) (s : State) : (State.logged ev s).adapterErrs = s.adapterErrs := rfl
@[simp] theorem State.logged_trace (ev : BusCall) (s : State) : (State.logged ev s).trace = ev :: s.trace := rfl
@[simp] theorem State.logged_draws (ev : BusCall) (s : State) : (State.logged ev s).draws = s.draws := rfl

@[simp] theorem State.setBC_a (v : Word) (s : State) : (State.setBC v s).a = s.a := rfl
@[simp] theorem State.setBC_f (v : Word) (s : State) : (State.setBC v s).f = s.f := rfl
@[simp] theorem State.setBC_b (v : Word) (s : State) : (State.setBC v s).b = hiByte v := rfl
@[simp] theorem State.setBC_c (v : Word) (s : State) : (State.setBC v s).c = loByte v := rfl
@[simp] theorem State.setBC_d (v : Word) (s : State) : (State.setBC v s).d = s.d := rfl
@[simp] theorem State.setBC_e (v : Word) (s : State) : (State.setBC v s).e = s.e := rfl
@[simp] theorem State.setBC_h (v : Word) (s : State) : (State.setBC v s).h = s.h := rfl
@[simp] theorem State.setBC_l (v : Word) (s : State) : (State.setBC v s).l = s.l := rfl
@[simp] theorem State.setBC_aAlt (v : Word) (s : State) : (State.setBC v s).aAlt = s.aAlt := rfl
@[simp] theorem State.setBC_fAlt (v : Word) (s : State) : (State.setBC v s).fAlt = s.fAlt := rfl
@[simp] theorem State.setBC_bAlt (v : Word) (s : State) : (State.setBC v s).bAlt = s.bAlt := rfl
@[simp] theorem State.setBC_cAlt (v : Word) (s : State) : (State.setBC v s).cAlt = s.cAlt := rfl
@[simp] theorem State.setBC_dAlt (v : Word) (s : State) : (State.setBC v s).dAlt = s.dAlt := rfl
@[simp] theorem State.setBC_eAlt (v : Word) (s : State) : (State.setBC v s).eAlt = s.eAlt := rfl
@[simp] theorem State.setBC_hAlt (v : Word) (s : State) : (State.setBC v s).hAlt = s.hAlt := rfl
@[simp] theorem State.setBC_lAlt (v : Word) (s : State) : (State.setBC v s).lAlt = s.lAlt := rfl
@[simp] theorem State.setBC_ix (v : Word) (s : State) : (State.setBC v s).ix = s.ix := rfl
@[simp] theorem State.setBC_iy (v : Word) (s : State) : (State.setBC v s).iy = s.iy := rfl
@[simp] theorem State.setBC_sp (v : Word) (s : State) : (State.setBC v s).sp = s.sp := rfl
@[simp] theorem State.setBC_pc (v : Word) (s : State) : (State.setBC v s).pc = s.pc := rfl
@[simp] theorem State.setBC_i (v : Word) (s : State) : (State.setBC v s).i = s.i := rfl
@[simp] theorem State.setBC_r (v : Word) (s : State) : (State.setBC v s).r = s.r := rfl
@[simp] theorem State.setBC_iff1 (v : Word) (s : State) : (State.setBC v s).iff1 = s.iff1 := rfl
@[simp] theorem State.setBC_iff2 (v : Word) (s : State) : (State.setBC v s).iff2 = s.iff2 := rfl
@[simp] theorem State.setBC_im (v : Word) (s : State) : (State.setBC v s).im = s.im := rfl
@[simp] theorem State.setBC_eiDiDelay (v : Word) (s : State) : (State.setBC v s).eiDiDelay = s.eiDiDelay := rfl
@[simp] theorem State.setBC_halted (v : Word) (s : State) : (State.setBC v s).halted = s.halted := rfl
@[simp] theorem State.setBC_tstates (v : Word) (s : State) : (State.setBC v s).tstates = s.tstates := rfl
@[simp] theorem State.setBC_inService (v : Word) (s : State) : (State.setBC v s).inService = s.inService := rfl
@[simp] theorem State.setBC_fault (v : Word) (s : State) : (State.setBC v s).fault = s.fault := rfl
@[simp] theorem State.setBC_mem (v : Word) (s : State) : (State.setBC v s).mem = s.mem := rfl
@[simp] theorem State.setBC_params (v : Word) (s : State) : (State.setBC v s).params = s.params := rfl
@[simp] theorem State.setBC_start (v : Word) (s : State) : (State.setBC v s).start = s.start := rfl
@[simp] theorem State.setBC_ioIn (v : Word) (s : State) : (State.setBC v s).ioIn = s.ioIn := rfl
@[simp] theorem State.setBC_irqs (v : Word) (s : State) : (State.setBC v s).irqs = s.irqs := rfl
@[simp] theorem State.setBC_adapterErrs (v : Word) (s : State) : (State.setBC v s).adapterErrs = s.adapterErrs := rfl
@[simp] theorem State.setBC_trace (v : Word) (s : State) : (State.setBC v s).trace = s.trace := rfl
@[simp] theorem State.setBC_draws (v : Word) (s : State) : (State.setBC v s).draws = s.draws := rfl

@[simp] theorem State.setDE_a (v : Word) (s : State) : (State.setDE v s).a = s.a := rfl
@[simp] theorem State.setDE_f (v : Word) (s : State) : (State.setDE v s).f = s.f := rfl
@[simp] theorem State.setDE_b (v : Word) (s : State) : (State.setDE v s).b = s.b := rfl
@[simp] theorem State.setDE_c (v : Word) (s : State) : (State.setDE v s).c = s.c := rfl
@[simp] theorem State.setDE_d (v : Word) (s : State) : (State.setDE v s).d = hiByte v := rfl
@[simp] theorem State.setDE_e (v : Word) (s : State) : (State.setDE v s).e = loByte v := rfl
@[simp] theorem State.setDE_h (v : Word) (s : State) : (State.setDE v s).h = s.h := rfl
@[simp] theorem State.setDE_l (v : Word) (s : State) : (State.setDE v s).l = s.l := rfl
@[simp] theorem State.setDE_aAlt (v : Word) (s : State) : (State.setDE v s).aAlt = s.aAlt := rfl
@[simp] theorem State.setDE_fAlt (v : Word) (s : State) : (State.setDE v s).fAlt = s.fAlt := rfl
@[simp] theorem State.setDE_bAlt (v : Word) (s : State) : (State.setDE v s).bAlt = s.bAlt := rfl
@[simp] theorem State.setDE_cAlt (v : Word) (s : State) : (State.setDE v s).cAlt = s.cAlt := rfl
@[simp] theorem State.setDE_dAlt (v : Word) (s : State) : (State.setDE v s).dAlt = s.dAlt := rfl
@[simp] theorem State.setDE_eAlt (v : Word) (s : State) : (State.setDE v s).eAlt = s.eAlt := rfl
@[simp] theorem State.setDE_hAlt (v : Word) (s : State) : (State.setDE v s).hAlt = s.hAlt := rfl
@[simp] theorem State.setDE_lAlt (v : Word) (s : State) : (State.setDE v s).lAlt = s.lAlt := rfl
@[simp] theorem State.setDE_ix (v : Word) (s : State) : (State.setDE v s).ix = s.ix := rfl
@[simp] theorem State.setDE_iy (v : Word) (s : State) : (State.setDE v s).iy = s.iy := rfl
@[simp] theorem State.setDE_sp (v : Word) (s : State) : (State.setDE v s).sp = s.sp := rfl
@[simp] theorem State.setDE_pc (v : Word) (s : State) : (State.setDE v s).pc = s.pc := rfl
@[simp] theorem State.setDE_i (v : Word) (s : State) : (State.setDE v s).i = s.i := rfl
@[simp] theorem State.setDE_r (v : Word) (s : State) : (State.setDE v s).r = s.r := rfl
@[simp] theorem State.setDE_iff1 (v : Word) (s : State) : (State.setDE v s).iff1 = s.iff1 := rfl
@[simp] theorem State.setDE_iff2 (v : Word) (s : State) : (State.setDE v s).iff2 = s.iff2 := rfl
@[simp] theorem State.setDE_im (v : Word) (s : State) : (State.setDE v s).im = s.im := rfl
@[simp] theorem State.setDE_eiDiDelay (v : Word) (s : State) : (State.setDE v s).eiDiDelay = s.eiDiDelay := rfl
@[simp] theorem State.setDE_halted (v : Word) (s : State) : (State.setDE v s).halted = s.halted := rfl
@[simp] theorem State.setDE_tstates (v : Word) (s : State) : (State.setDE v s).tstates = s.tstates := rfl
@[simp] theorem State.setDE_inService (v : Word) (s : State) : (State.setDE v s).inService = s.inService := rfl
@[simp] theorem State.setDE_fault (v : Word) (s : State) : (State.setDE v s).fault = s.fault := rfl
@[simp] theorem State.setDE_mem (v : Word) (s : State) : (State.setDE v s).mem = s.mem := rfl
@[simp] theorem State.setDE_params (v : Word) (s : State) : (State.setDE v s).params = s.params := rfl
@[simp] theorem State.setDE_start (v : Word) (s : State) : (State.setDE v s).start = s.start := rfl
@[simp] theorem State.setDE_ioIn (v : Word) (s : State) : (State.setDE v s).ioIn = s.ioIn := rfl
@[simp] theorem State.setDE_irqs (v : Word) (s : State) : (State.setDE v s).irqs = s.irqs := rfl
@[simp] theorem State.setDE_adapterErrs (v : Word) (s : State) : (State.setDE v s).adapterErrs = s.adapterErrs := rfl
@[simp] theorem State.setDE_trace (v : Word) (s : State) : (State.setDE v s).trace = s.trace := rfl
@[simp] theorem State.setDE_draws (v : Word) (s : State) : (State.setDE v s).draws = s.draws := rfl

@[simp] theorem State.setHL_a (v : Word) (s : State) : (State.setHL v s).a = s.a := rfl
@[simp] theorem State.setHL_f (v : Word) (s : State) : (State.setHL v s).f = s.f := rfl
@[simp] theorem State.setHL_b (v : Word) (s : State) : (State.setHL v s).b = s.b := rfl
@[simp] theorem State.setHL_c (v : Word) (s : State) : (State.setHL v s).c = s.c := rfl
@[simp] theorem State.setHL_d (v : Word) (s : State) : (State.setHL v s).d = s.d := rfl
@[simp] theorem State.setHL_e (v : Word) (s : State) : (State.setHL v s).e = s.e := rfl
@[simp] theorem State.setHL_h (v : Word) (s : State) : (State.setHL v s).h = hiByte v := rfl
@[simp] theorem State.setHL_l (v : Word) (s : State) : (State.setHL v s).l = loByte v := rfl
@[simp] theorem State.setHL_aAlt (v : Word) (s : State) : (State.setHL v s).aAlt = s.aAlt := rfl
@[simp] theorem State.setHL_fAlt (v : Word) (s : State) : (State.setHL v s).fAlt = s.fAlt := rfl
@[simp] theorem State.setHL_bAlt (v : Word) (s : State) : (State.setHL v s).bAlt = s.bAlt := rfl
@[simp] theorem State.setHL_cAlt (v : Word) (s : State) : (State.setHL v s).cAlt = s.cAlt := rfl
@[simp] theorem State.setHL_dAlt (v : Word) (s : State) : (State.setHL v s).dAlt = s.dAlt := rfl
@[simp] theorem State.setHL_eAlt (v : Word) (s : State) : (State.setHL v s).eAlt = s.eAlt := rfl
@[simp] theorem State.setHL_hAlt (v : Word) (s : State) : (State.setHL v s).hAlt = s.hAlt := rfl
@[simp] theorem State.setHL_lAlt (v : Word) (s : State) : (State.setHL v s).lAlt = s.lAlt := rfl
@[simp] theorem State.setHL_ix (v : Word) (s : State) : (State.setHL v s).ix = s.ix := rfl
@[simp] theorem State.setHL_iy (v : Word) (s : State) : (State.setHL v s).iy = s.iy := rfl
@[simp] theorem State.setHL_sp (v : Word) (s : State) : (State.setHL v s).sp = s.sp := rfl
@[simp] theorem State.setHL_pc (v : Word) (s : State) : (State.setHL v s).pc = s.pc := rfl
@[simp] theorem State.setHL_i (v : Word) (s : State) : (State.setHL v s).i = s.i := rfl
@[simp] theorem State.setHL_r (v : Word) (s : State) : (State.setHL v s).r = s.r := rfl
@[simp] theorem State.setHL_iff1 (v : Word) (s : State) : (State.setHL v s).iff1 = s.iff1 := rfl
@[simp] theorem State.setHL_iff2 (v : Word) (s : State) : (State.setHL v s).iff2 = s.iff2 := rfl
@[simp] theorem State.setHL_im (v : Word) (s : State) : (State.setHL v s).im = s.im := rfl
@[simp] theorem State.setHL_eiDiDelay (v : Word) (s : State) : (State.setHL v s).eiDiDelay = s.eiDiDelay := rfl
@[simp] theorem State.setHL_halted (v : Word) (s : State) : (State.setHL v s).halted = s.halted := rfl
@[simp] theorem State.setHL_tstates (v : Word) (s : State) : (State.setHL v s).tstates = s.tstates := rfl
@[simp] theorem State.setHL_inService (v : Word) (s : State) : (State.setHL v s).inService = s.inService := rfl
@[simp] theorem State.setHL_fault (v : Word) (s : State) : (State.setHL v s).fault = s.fault := rfl
@[simp] theorem State.setHL_mem (v : Word) (s : State) : (State.setHL v s).mem = s.mem := rfl
@[simp] theorem State.setHL_params (v : Word) (s : State) : (State.setHL v s).params = s.params := rfl
@[simp] theorem State.setHL_start (v : Word) (s : State) : (State.setHL v s).start = s.start := rfl
@[simp] theorem State.setHL_ioIn (v : Word) (s : State) : (State.setHL v s).ioIn = s.ioIn := rfl
@[simp] theorem State.setHL_irqs (v : Word) (s : State) : (State.setHL v s).irqs = s.irqs := rfl
@[simp] theorem State.setHL_adapterErrs (v : Word) (s : State) : (State.setHL v s).adapterErrs = s.adapterErrs := rfl
@[simp] theorem State.setHL_trace (v : Word) (s : State) : (State.setHL v s).trace = s.trace := rfl
@[simp] theorem State.setHL_draws (v : Word) (s : State) : (State.setHL v s).draws = s.draws := rfl

@[simp] theorem State.setAFWord_a (v : Word) (s : State) : (State.setAFWord v s).a = hiByte v := rfl
@[simp] theorem State.setAFWord_f (v : Word) (s : State) : (State.setAFWord v s).f = Flags.ofByte (loByte v) := rfl
@[simp] theorem State.setAFWord_b (v : Word) (s : State) : (State.setAFWord v s).b = s.b := rfl
@[simp] theorem State.setAFWord_c (v : Word) (s : State) : (State.setAFWord v s).c = s.c := rfl
@[simp] theorem State.setAFWord_d (v : Word) (s : State) : (State.setAFWord v s).d = s.d := rfl
@[simp] theorem State.setAFWord_e (v : Word) (s : State) : (State.setAFWord v s).e = s.e := rfl
@[simp] theorem State.setAFWord_h (v : Word) (s : State) : (State.setAFWord v s).h = s.h := rfl
@[simp] theorem State.setAFWord_l (v : Word) (s : State) : (State.setAFWord v s).l = s.l := rfl
@[simp] theorem State.setAFWord_aAlt (v : Word) (s : State) : (State.setAFWord v s).aAlt = s.aAlt := rfl
@[simp] theorem State.setAFWord_fAlt (v : Word) (s : State) : (State.setAFWord v s).fAlt = s.fAlt := rfl
@[simp] theorem State.setAFWord_bAlt (v : Word) (s : State) : (State.setAFWord v s).bAlt = s.bAlt := rfl
@[simp] theorem State.setAFWord_cAlt (v : Word) (s : State) : (State.setAFWord v s).cAlt = s.cAlt := rfl
@[simp] theorem State.setAFWord_dAlt (v : Word) (s : State) : (State.setAFWord v s).dAlt = s.dAlt := rfl
@[simp] theorem State.setAFWord_eAlt (v : Word) (s : State) : (State.setAFWord v s).eAlt = s.eAlt := rfl
@[simp] theorem State.setAFWord_hAlt (v : Word) (s : State) : (State.setAFWord v s).hAlt = s.hAlt := rfl
@[simp] theorem State.setAFWord_lAlt (v : Word) (s : State) : (State.setAFWord v s).lAlt = s.lAlt := rfl
@[simp] theorem State.setAFWord_ix (v : Word) (s : State) : (State.setAFWord v s).ix = s.ix := rfl
@[simp] theorem State.setAFWord_iy (v : Word) (s : State) : (State.setAFWord v s).iy = s.iy := rfl
@[simp] theorem State.setAFWord_sp (v : Word) (s : State) : (State.setAFWord v s).sp = s.sp := rfl
@[simp] theorem State.setAFWord_pc (v : Word) (s : State) : (State.setAFWord v s).pc = s.pc := rfl
@[simp] theorem State.setAFWord_i (v : Word) (s : State) : (State.setAFWord v s).i = s.i := rfl
@[simp] theorem State.setAFWord_r (v : Word) (s : State) : (State.setAFWord v s).r = s.r := rfl
@[simp] theorem State.setAFWord_iff1 (v : Word) (s : State) : (State.setAFWord v s).iff1 = s.iff1 := rfl
@[simp] theorem State.setAFWord_iff2 (v : Word) (s : State) : (State.setAFWord v s).iff2 = s.iff2 := rfl
@[simp] theorem State.setAFWord_im (v : Word) (s : State) : (State.setAFWord v s).im = s.im := rfl
@[simp] theorem State.setAFWord_eiDiDelay (v : Word) (s : State) : (State.setAFWord v s).eiDiDelay = s.eiDiDelay := rfl
@[simp] theorem State.setAFWord_halted (v : Word) (s : State) : (State.setAFWord v s).halted = s.halted := rfl
@[simp] theorem State.setAFWord_tstates (v : Word) (s : State) : (State.setAFWord v s).tstates = s.tstates := rfl
@[simp] theorem State.setAFWord_inService (v : Word) (s : State) : (State.setAFWord v s).inService = s.inService := rfl
@[simp] theorem State.setAFWord_fault (v : Word) (s : State) : (State.setAFWord v s).fault = s.fault := rfl
@[simp] theorem State.setAFWord_mem (v : Word) (s : State) : (State.setAFWord v s).mem = s.mem := rfl
@[simp] theorem State.setAFWord_params (v : Word) (s : State) : (State.setAFWord v s).params = s.params := rfl
@[simp] theorem State.setAFWord_start (v : Word) (s : State) : (State.setAFWord v s).start = s.start := rfl
@[simp] theorem State.setAFWord_ioIn (v : Word) (s : State) : (State.setAFWord v s).ioIn = s.ioIn := rfl
@[simp] theorem State.setAFWord_irqs (v : Word) (s : State) : (State.setAFWord v s).irqs = s.irqs := rfl
@[simp] theorem State.setAFWord_adapterErrs (v : Word) (s : State) : (State.setAFWord v s).adapterErrs = s.adapterErrs := rfl
@[simp] theorem State.setAFWord_trace (v : Word) (s : State) : (State.setAFWord v s).trace = s.trace := rfl
@[simp] theorem State.setAFWord_draws (v : Word) (s : State) : (State.setAFWord v s).draws = s.draws := rfl

@[simp] theorem State.bc_setBC (v : Word) (s : State) : (s.setBC v).bc = v := mkWord_hiByte_loByte v

@[simp] theorem State.de_setDE (v : Word) (s : State) : (s.setDE v).de = v := mkWord_hiByte_loByte v

@[simp] theorem State.hl_setHL (v : Word) (s : State) : (s.setHL v).hl = v := mkWord_hiByte_loByte v

end Sys2Proof.Machine
end

