-- ==== Sys2Proof/Laws/Ops.lean ====
section
/-! SUPPORT. What each shared operation can do, said once. `<op>_ok`: with no error waiting the operation goes on with
the value and the state named. `<op>_next`: where the whole step answers a next state, the operation went on, an entry
of `adapterErrs` used up for each call. -/

namespace Sys2Proof.Machine

/-- The state after one call that reported no error. -/
def State.called (s : State) : State := { s with adapterErrs := s.adapterErrs.tail }

theorem State.called_of_nil {s : State} (h : s.adapterErrs = []) : s.called = s := by
  obtain ⟨⟩ := s
  simp_all [State.called]

theorem adapterCall_ok {s : State} (h : s.adapterErrs = []) (ad : Adapter) (call : CallName) (addr : Option Word)
    (failed : State → State) (k : State → Out) : adapterCall ad call addr failed s k = k s := by
  simp [adapterCall, h]

theorem adapterCall_next {s t : State} {ad : Adapter} {call : CallName} {addr : Option Word}
    {failed : State → State} {k : State → Out} (h : adapterCall ad call addr failed s k = .next t) :
    k s.called = .next t := by
  unfold adapterCall at h
  split at h
  · cases h
  · next es he => simpa [State.called, he] using h
  · next he => simpa [State.called_of_nil he] using h

/-- A call either reports the first waiting error, which raises AdapterError, or goes on. -/
theorem adapterCall_cases (s : State) (ad : Adapter) (call : CallName) (addr : Option Word) (failed : State → State)
    (k : State → Out) :
    (∃ err es, s.adapterErrs = some err :: es ∧ adapterCall ad call addr failed s k =
      raise (.adapterError s.start ad call addr err) (failed s.called)) ∨
    ((∀ err es, s.adapterErrs ≠ some err :: es) ∧ adapterCall ad call addr failed s k = k s.called) := by
  unfold adapterCall
  split
  · next err es he => exact .inl ⟨err, es, he, by simp [State.called, he]⟩
  · next es he => exact .inr ⟨by simp [he], by simp [State.called, he]⟩
  · next he => exact .inr ⟨by simp [he], by rw [State.called_of_nil he]⟩

theorem memRead_ok {s : State} (h : s.adapterErrs = []) (a : Word) (k : Byte → State → Out) :
    memRead a s k = k (s.mem.read a) (s.logged (.memRead a (s.mem.read a))) := adapterCall_ok h ..

theorem memRead_next {a : Word} {s t : State} {k : Byte → State → Out} (h : memRead a s k = .next t) :
    k (s.mem.read a) (s.called.logged (.memRead a (s.mem.read a))) = .next t := adapterCall_next h

theorem memWrite_ok {s : State} (h : s.adapterErrs = []) (a : Word) (v : Byte) (k : State → Out) :
    memWrite a v s k = k ((s.store a v).logged (.memWrite a v)) := adapterCall_ok h ..

theorem memWrite_next {a : Word} {v : Byte} {s t : State} {k : State → Out} (h : memWrite a v s k = .next t) :
    k ((s.called.store a v).logged (.memWrite a v)) = .next t := adapterCall_next h

theorem memRead2_ok {s : State} (h : s.adapterErrs = []) (a : Word) (k : Word → State → Out) :
    memRead2 a s k = k (mkWord (s.mem.read (a + 1)) (s.mem.read a))
      ((s.logged (.memRead a (s.mem.read a))).logged (.memRead (a + 1) (s.mem.read (a + 1)))) := by
  rw [memRead2, memRead_ok h, memRead_ok (by simpa using h)]
  simp

theorem memRead2_next {a : Word} {s t : State} {k : Word → State → Out} (h : memRead2 a s k = .next t) :
    k (mkWord (s.mem.read (a + 1)) (s.mem.read a))
      (((s.called.logged (.memRead a (s.mem.read a))).called).logged (.memRead (a + 1) (s.mem.read (a + 1)))) =
      .next t := memRead_next (memRead_next h)

theorem memWrite2_ok {s : State} (h : s.adapterErrs = []) (a v : Word) (k : State → Out) :
    memWrite2 a v s k = k (((((s.store a (loByte v)).logged (.memWrite a (loByte v))).store (a + 1) (hiByte v)).logged
      (.memWrite (a + 1) (hiByte v)))) := by
  rw [memWrite2, memWrite_ok h, memWrite_ok (by simpa using h)]

theorem memWrite2_next {a v : Word} {s t : State} {k : State → Out} (h : memWrite2 a v s k = .next t) :
    k ((((s.called.store a (loByte v)).logged (.memWrite a (loByte v))).called.store (a + 1) (hiByte v)).logged
      (.memWrite (a + 1) (hiByte v))) = .next t := memWrite_next (memWrite_next h)

theorem ioRead_ok {s : State} (h : s.adapterErrs = []) (port : Word) (k : Byte → State → Out) :
    ioRead port s k = k (ioAnswer port s).1 ((ioAnswer port s).2.logged (.ioRead port (ioAnswer port s).1)) :=
  adapterCall_ok h ..

theorem ioRead_next {port : Word} {s t : State} {k : Byte → State → Out} (h : ioRead port s k = .next t) :
    k (ioAnswer port s.called).1 ((ioAnswer port s.called).2.logged (.ioRead port (ioAnswer port s.called).1)) =
      .next t := adapterCall_next h

theorem ioWrite_ok {s : State} (h : s.adapterErrs = []) (port : Word) (v : Byte) (k : State → Out) :
    ioWrite port v s k = k (s.logged (.ioWrite port v)) := adapterCall_ok h ..

theorem ioWrite_next {port : Word} {v : Byte} {s t : State} {k : State → Out} (h : ioWrite port v s k = .next t) :
    k (s.called.logged (.ioWrite port v)) = .next t := adapterCall_next h

/-- The state after a push: SP down by two, the two bytes stored, the high byte first. -/
def State.pushed (v : Word) (s : State) : State :=
  { s with
    sp := s.sp - 1 - 1
    mem := (s.mem.write (s.sp - 1) (hiByte v)).write (s.sp - 1 - 1) (loByte v)
    trace := .memWrite (s.sp - 1 - 1) (loByte v) :: .memWrite (s.sp - 1) (hiByte v) :: s.trace }

theorem push16_ok {s : State} (h : s.adapterErrs = []) (v : Word) (k : State → Out) :
    push16 v s k = k (s.pushed v) := by
  rw [push16, memWrite_ok (by exact h), memWrite_ok (by exact h)]
  simp only [State.store, State.logged, State.pushed]

theorem push16_next {v : Word} {s t : State} {k : State → Out} (h : push16 v s k = .next t) :
    k { s.pushed v with adapterErrs := s.adapterErrs.tail.tail } = .next t := by
  unfold push16 at h
  have h2 := memWrite_next (memWrite_next h)
  simp only [State.called, State.store, State.logged] at h2
  simp only [State.pushed]
  exact h2

/-- The state after a pop: SP up by two. -/
def State.popped (s : State) : State :=
  { s with
    sp := s.sp + 1 + 1
    trace := .memRead (s.sp + 1) (s.mem.read (s.sp + 1)) :: .memRead s.sp (s.mem.read s.sp) :: s.trace }

theorem pop16_ok {s : State} (h : s.adapterErrs = []) (k : Word → State → Out) :
    pop16 s k = k (mkWord (s.mem.read (s.sp + 1)) (s.mem.read s.sp)) s.popped := by
  rw [pop16, memRead_ok h, memRead_ok (by exact h)]
  rfl

theorem pop16_next {s t : State} {k : Word → State → Out} (h : pop16 s k = .next t) :
    k (mkWord (s.mem.read (s.sp + 1)) (s.mem.read s.sp)) { s.popped with adapterErrs := s.adapterErrs.tail.tail } =
      .next t := by
  unfold pop16 at h
  have h2 := memRead_next (memRead_next h)
  simp only [State.called, State.logged] at h2
  simp only [State.popped]
  exact h2

theorem getPendingSource_ok {s : State} (h : s.adapterErrs = []) (k : Option Source → State → Out) :
    getPendingSource s k = k (pendingAnswer s).1
      ((pendingAnswer s).2.logged (.getPendingSource ((pendingAnswer s).1.map Source.handle))) := adapterCall_ok h ..

theorem getPendingSource_next {s t : State} {k : Option Source → State → Out} (h : getPendingSource s k = .next t) :
    k (pendingAnswer s.called).1 ((pendingAnswer s.called).2.logged
      (.getPendingSource ((pendingAnswer s.called).1.map Source.handle))) = .next t := adapterCall_next h

theorem callAcceptInterrupt_ok {s : State} (h : s.adapterErrs = []) (src : Source) (k : Byte → State → Out) :
    callAcceptInterrupt src s k = k src.vector (s.logged (.acceptInterrupt src.handle src.vector)) :=
  adapterCall_ok h ..

theorem callAcceptInterrupt_next {src : Source} {s t : State} {k : Byte → State → Out}
    (h : callAcceptInterrupt src s k = .next t) :
    k src.vector (s.called.logged (.acceptInterrupt src.handle src.vector)) = .next t := adapterCall_next h

theorem callInterruptFinish_ok {s : State} (h : s.adapterErrs = []) (handle : Nat) (k : State → Out) :
    callInterruptFinish handle s k = k (s.logged (.interruptFinish handle)) := adapterCall_ok h ..

theorem callInterruptFinish_next {handle : Nat} {s t : State} {k : State → Out}
    (h : callInterruptFinish handle s k = .next t) : k (s.called.logged (.interruptFinish handle)) = .next t :=
  adapterCall_next h

theorem ioAnswer_listed {s : State} {v : Byte} {vs : List Byte} (h : s.ioIn = v :: vs) (port : Word) :
    ioAnswer port s = (v, { s with ioIn := vs }) := by
  simp [ioAnswer, h]

theorem ioAnswer_free {s : State} (h : s.ioIn = []) (port : Word) :
    ioAnswer port s = (Config.ioByte s.draws port, { s with draws := s.draws + 1 }) := by
  simp [ioAnswer, h]

theorem pendingAnswer_listed {s : State} {o : Option Source} {os : List (Option Source)} (h : s.irqs = o :: os) :
    pendingAnswer s = (o, { s with irqs := os }) := by
  simp [pendingAnswer, h]

theorem pendingAnswer_end {s : State} (h : s.irqs = []) : pendingAnswer s = (none, s) := by
  simp [pendingAnswer, h]

theorem returnFromInterrupt_ok {s : State} (h : s.adapterErrs = []) (k : State → Out) :
    returnFromInterrupt s k = k { s.popped with
      pc := mkWord (s.mem.read (s.sp + 1)) (s.mem.read s.sp), iff1 := s.iff2 } := by
  rw [returnFromInterrupt, pop16_ok h]
  rfl

theorem returnFromInterrupt_next {s t : State} {k : State → Out} (h : returnFromInterrupt s k = .next t) :
    k { s.popped with
      pc := mkWord (s.mem.read (s.sp + 1)) (s.mem.read s.sp), iff1 := s.iff2
      adapterErrs := s.adapterErrs.tail.tail } = .next t :=
  pop16_next h

theorem finishInService_nil {s : State} (h : s.inService = []) (k : State → Out) : finishInService s k = k s := by
  simp [finishInService, h]

theorem finishInService_cons {s : State} {handle : Nat} {rest : List Nat} (h : s.inService = handle :: rest)
    (k : State → Out) :
    finishInService s k = callInterruptFinish handle { s with inService := rest } k := by
  simp [finishInService, h]

theorem pushAndEnter_ok {s : State} (h : s.adapterErrs = []) (target : Word) (handle cost : Nat) (k : State → Out) :
    pushAndEnter target handle cost s k =
      k (enterHandler target handle cost (State.pushed s.pc { s with halted := false })) := by
  rw [pushAndEnter, push16_ok (by exact h)]

theorem pushAndEnter_next {s t : State} {target : Word} {handle cost : Nat} {k : State → Out}
    (h : pushAndEnter target handle cost s k = .next t) :
    k (enterHandler target handle cost { State.pushed s.pc { s with halted := false } with
      adapterErrs := s.adapterErrs.tail.tail }) = .next t :=
  push16_next h

/-- What an acceptance that goes on has done: all of it but the target, the cost, the entries of `adapterErrs` used
and the calls logged, which depend on the mode (60_exceptions.md R493). -/
theorem acceptInterrupt_next {src : Source} {s t : State} {k : State → Out}
    (h : acceptInterrupt src s k = .next t) :
    ∃ s' : State, k s' = .next t ∧
      (s'.tstates = s.tstates + 13 ∨ s'.tstates = s.tstates + 19) ∧
      s' = { s with
        iff1 := false, iff2 := false, halted := false, sp := s.sp - 1 - 1
        mem := (s.mem.write (s.sp - 1) (hiByte s.pc)).write (s.sp - 1 - 1) (loByte s.pc)
        pc := s'.pc, inService := src.handle :: s.inService, r := nextR s.r
        tstates := s'.tstates, adapterErrs := s'.adapterErrs, trace := s'.trace } := by
  unfold acceptInterrupt at h
  split at h
  · have h1 := callAcceptInterrupt_next h
    simp only [State.logged, State.called] at h1
    split at h1
    · split at h1
      · exact ⟨_, pushAndEnter_next h1, .inl rfl, by simp only [enterHandler, State.addT, State.incR, State.pushed]⟩
      · cases h1
    · exact ⟨_, pushAndEnter_next h1, .inl rfl, by simp only [enterHandler, State.addT, State.incR, State.pushed]⟩
    · have h2 := memRead2_next (push16_next h1)
      simp only [enterHandler, State.addT, State.incR, State.pushed, State.logged, State.called] at h2
      exact ⟨_, h2, .inr rfl, rfl⟩
  · cases h

/-- What the interrupt check that goes on has done (R491, R492): cleared the mark, done nothing, asked the registry in
vain, or accepted the source it returned. -/
theorem interruptCheck_next {s t : State} {k : State → Out} (h : interruptCheck s k = .next t) :
    (s.eiDiDelay = true ∧ k { s with eiDiDelay := false } = .next t) ∨
    (s.eiDiDelay = false ∧ s.iff1 = false ∧ k s = .next t) ∨
    (s.eiDiDelay = false ∧ s.iff1 = true ∧ ∃ o s1,
      (pendingAnswer s.called) = (o, s1) ∧
      match o with
      | none => k (s1.logged (.getPendingSource none)) = .next t
      | some src => acceptInterrupt src (s1.logged (.getPendingSource (some src.handle))) k = .next t) := by
  unfold interruptCheck at h
  split at h
  · next hd => exact .inl ⟨hd, h⟩
  · next hd =>
    split at h
    · next hi =>
      have h1 := getPendingSource_next h
      rcases hp : pendingAnswer s.called with ⟨o, s1⟩
      rw [hp] at h1
      refine .inr (.inr ⟨by simpa using hd, hi, o, s1, rfl, ?_⟩)
      cases o <;> exact h1
    · next hi => exact .inr (.inl ⟨by simpa using hd, by simpa using hi, h⟩)

/-- With no error waiting, taking the exception in mode 1 (60_exceptions.md R493, R496). -/
theorem acceptInterrupt_im1_ok {s : State} (h : s.adapterErrs = []) (hm : s.im = .im1) (hs : s.params.im1 = true)
    (src : Source) (k : State → Out) :
    acceptInterrupt src s k = k (enterHandler 0x0038 src.handle 13
      (State.pushed s.pc (State.logged (.acceptInterrupt src.handle src.vector)
        { s with iff1 := false, iff2 := false, halted := false }))) := by
  rw [acceptInterrupt, if_pos (by simp [hm, hs, Params.supports]), callAcceptInterrupt_ok (by exact h)]
  simp only [State.logged_im, hm]
  rw [pushAndEnter, push16_ok (by exact h)]
  rfl

@[simp] theorem cbMemT_none (p : Params) (plain counted : Nat) : cbMemT .none p plain counted = plain := by
  unfold cbMemT; split <;> rfl

theorem cbMemT_counted {p : Params} (h : p.tableDDCB = false) (x : Ctx) (plain counted : Nat) :
    cbMemT x p plain counted = memT x plain counted := by simp [cbMemT, h]

theorem cbMemT_table {p : Params} (h : p.tableDDCB = true) (x : Ctx) (plain counted : Nat) :
    cbMemT x p plain counted = plain := by simp [cbMemT, h]

/-- The cost is one of the two the spec prints. -/
theorem cbMemT_cases (x : Ctx) (p : Params) (plain counted : Nat) :
    cbMemT x p plain counted = plain ∨ cbMemT x p plain counted = counted := by
  unfold cbMemT; split
  · exact .inl rfl
  · cases x <;> simp [memT]

end Sys2Proof.Machine
end

