-- ==== Sys2Proof/Laws/Fetch.lean ====
section
/-! SUPPORT. What fetching, running and stepping can do, said once. -/

namespace Sys2Proof.Machine

theorem fetchTree_done (i : Instr) (passT : Nat) (bytes : List Byte) (s : State) (k : Instr → Nat → State → Out) :
    fetchTree (.done i) passT bytes s k = k i passT s := rfl

theorem fetchTree_unknown (passT : Nat) (bytes : List Byte) (s : State) (k : Instr → Nat → State → Out) :
    fetchTree .unknown passT bytes s k = raise (.unknownOpcode s.start bytes) s := rfl

theorem fetchTree_pass (next : Dec) (passT : Nat) (bytes : List Byte) (s : State) (k : Instr → Nat → State → Out) :
    fetchTree (.pass next) passT bytes s k = fetchTree next (passT + 4) bytes s k := rfl

theorem fetchTree_more_ok {s : State} (h : s.adapterErrs = []) (m1 : Bool) (next : Byte → Dec) (passT : Nat)
    (bytes : List Byte) (k : Instr → Nat → State → Out) :
    fetchTree (.more m1 next) passT bytes s k =
      fetchTree (next (s.mem.read s.pc)) passT (bytes ++ [s.mem.read s.pc])
        (State.fetched m1 (s.logged (.memRead s.pc (s.mem.read s.pc)))) k := by
  rw [fetchTree, memRead_ok h]

theorem State.fetched_eq (m1 : Bool) (s : State) :
    s.fetched m1 = { s with pc := s.pc + 1, r := if m1 then nextR s.r else s.r } := by
  cases m1 <;> rfl

/-- A fetch that goes on has changed PC, R, the log and the waiting errors, and nothing else. -/
theorem fetchTree_next {d : Dec} {passT : Nat} {bytes : List Byte} {s t : State} {k : Instr → Nat → State → Out}
    (h : fetchTree d passT bytes s k = .next t) :
    ∃ i passT' s', k i passT' s' = .next t ∧
      s' = { s with pc := s'.pc, r := s'.r, trace := s'.trace, adapterErrs := s'.adapterErrs } := by
  induction d generalizing passT bytes s with
  | done i => exact ⟨i, passT, s, h, rfl⟩
  | unknown => cases h
  | pass next ih => exact ih h
  | more m1 next ih =>
    obtain ⟨i, p, s', hk, hs⟩ := ih _ (memRead_next h)
    refine ⟨i, p, s', hk, hs.trans ?_⟩
    simp only [State.fetched_eq, State.logged, State.called]

theorem runInstr_next {i : Instr} {passT : Nat} {s t : State} (h : runInstr i passT s = .next t) :
    ∃ u, exec i s = .next u ∧ t = u.addT passT := by
  unfold runInstr at h
  split at h
  · next u hu => exact ⟨u, hu, by cases h; rfl⟩
  · cases h
  · cases h

theorem runInstr_of_next {i : Instr} {passT : Nat} {s u : State} (h : exec i s = .next u) :
    runInstr i passT s = .next (u.addT passT) := by
  simp [runInstr, h]

/-- A step that answers a next state began without a fault record. -/
theorem step_next {s t : State} (h : step s = .next t) : s.fault = none ∧ stepBody s = .next t := by
  unfold step at h
  split at h
  · cases h
  · next hf => exact ⟨hf, h⟩

theorem haltOrExecute_next {s t : State} (h : haltOrExecute s = .next t) :
    (s.halted = true ∧ t = State.addT 4 s.incR) ∨ (s.halted = false ∧ executeInstruction s = .next t) := by
  unfold haltOrExecute haltedStep at h
  split at h
  · next hh => exact .inl ⟨hh, by cases h; rfl⟩
  · next hh => exact .inr ⟨by simpa using hh, h⟩

end Sys2Proof.Machine
end

