-- ==== Sys2Proof/Laws/Memory.lean ====
section
/-! SUPPORT. Memory laws: read after write, and the canonical form every operation keeps (20_memory.md R60). -/

namespace Sys2Proof.Machine

theorem Memory.readNat_of_wfFrom_lt {m : Memory} {lo a : Nat} (h : Memory.wfFrom lo m = true) (ha : a < lo) :
    m.readNat a = Memory.unlisted := by
  induction m generalizing lo with
  | nil => rfl
  | cons c m ih =>
    obtain ⟨b, w⟩ := c
    simp only [Memory.wfFrom, Bool.and_eq_true, decide_eq_true_eq] at h
    rw [Memory.readNat, if_neg (by omega)]
    exact ih h.2 (by omega)

theorem Memory.readNat_writeNat {m : Memory} {lo : Nat} (h : Memory.wfFrom lo m = true) (a b : Nat) (v : Byte) :
    (m.writeNat a v).readNat b = if b = a then v else m.readNat b := by
  induction m generalizing lo with
  | nil =>
    by_cases hv : v = Memory.unlisted
    · simp only [Memory.writeNat, if_pos hv, Memory.readNat]
      split
      · exact hv.symm
      · rfl
    · simp only [Memory.writeNat, if_neg hv, Memory.readNat]
  | cons c m ih =>
    obtain ⟨k, w⟩ := c
    simp only [Memory.wfFrom, Bool.and_eq_true, decide_eq_true_eq] at h
    by_cases hak : a < k
    · have hu : Memory.readNat ((k, w) :: m) a = Memory.unlisted :=
        Memory.readNat_of_wfFrom_lt (lo := k)
          (by simp only [Memory.wfFrom, Bool.and_eq_true, decide_eq_true_eq]
              exact ⟨⟨⟨Nat.le_refl k, h.1.1.2⟩, h.1.2⟩, h.2⟩) hak
      by_cases hv : v = Memory.unlisted
      · simp only [Memory.writeNat, if_pos hak, if_pos hv]
        by_cases hb : b = a
        · subst hb; simp [hu, hv]
        · simp [hb]
      · simp only [Memory.writeNat, if_pos hak, if_neg hv]
        rw [Memory.readNat]
    · by_cases hk : a = k
      · subst hk
        by_cases hv : v = Memory.unlisted
        · simp only [Memory.writeNat, if_neg hak, if_pos hv, if_true, Memory.readNat]
          by_cases hb : b = a
          · subst hb
            simp [Memory.readNat_of_wfFrom_lt h.2 (Nat.lt_succ_self b), hv]
          · simp [hb]
        · simp only [Memory.writeNat, if_neg hak, if_neg hv, if_true, Memory.readNat]
          split <;> rfl
      · simp only [Memory.writeNat, if_neg hak, if_neg hk, Memory.readNat]
        rw [ih h.2]
        by_cases hb : b = k
        · subst hb; simp; intro h; exact absurd h.symm hk
        · simp [hb]

theorem Memory.wfFrom_writeNat {m : Memory} {lo : Nat} (h : Memory.wfFrom lo m = true) {a : Nat} (ha : lo ≤ a)
    (hb : a < 65536) (v : Byte) : Memory.wfFrom lo (m.writeNat a v) = true := by
  induction m generalizing lo with
  | nil =>
    by_cases hv : v = Memory.unlisted
    · simp [Memory.writeNat, hv, Memory.wfFrom]
    · simp [Memory.writeNat, hv, Memory.wfFrom, ha, hb]
  | cons c m ih =>
    obtain ⟨k, w⟩ := c
    have hm := h
    simp only [Memory.wfFrom, Bool.and_eq_true, decide_eq_true_eq] at h
    by_cases hak : a < k
    · by_cases hv : v = Memory.unlisted
      · simpa only [Memory.writeNat, if_pos hak, if_pos hv] using hm
      · simp only [Memory.writeNat, if_pos hak, if_neg hv, Memory.wfFrom, Bool.and_eq_true, decide_eq_true_eq]
        exact ⟨⟨⟨ha, hb⟩, hv⟩, ⟨⟨by omega, h.1.1.2⟩, h.1.2⟩, h.2⟩
    · by_cases hk : a = k
      · subst hk
        by_cases hv : v = Memory.unlisted
        · simp only [Memory.writeNat, if_neg hak, if_pos hv, if_true]
          have wk : ∀ {lo lo' : Nat} {m : Memory}, lo ≤ lo' → Memory.wfFrom lo' m = true → Memory.wfFrom lo m = true := by
            intro lo lo' m hl hw
            cases m with
            | nil => rfl
            | cons c m =>
              obtain ⟨k, w⟩ := c
              simp only [Memory.wfFrom, Bool.and_eq_true, decide_eq_true_eq] at hw ⊢
              exact ⟨⟨⟨by omega, hw.1.1.2⟩, hw.1.2⟩, hw.2⟩
          exact wk (by omega) h.2
        · simp only [Memory.writeNat, if_neg hak, if_neg hv, if_true, Memory.wfFrom, Bool.and_eq_true, decide_eq_true_eq]
          exact ⟨⟨⟨ha, hb⟩, hv⟩, h.2⟩
      · simp only [Memory.writeNat, if_neg hak, if_neg hk, Memory.wfFrom, Bool.and_eq_true, decide_eq_true_eq]
        exact ⟨⟨⟨h.1.1.1, h.1.1.2⟩, h.1.2⟩, ih h.2 (by omega)⟩

/-- A write keeps the canonical form. -/
theorem Memory.wf_write {m : Memory} (h : m.wf = true) (a : Word) (v : Byte) : (m.write a v).wf = true :=
  Memory.wfFrom_writeNat h (Nat.zero_le _) a.isLt v

/-- A list of writes keeps the canonical form. -/
theorem Memory.wf_writeBytes {m : Memory} (h : m.wf = true) (a : Word) (vs : List Byte) :
    (m.writeBytes a vs).wf = true := by
  induction vs generalizing m a with
  | nil => exact h
  | cons v vs ih => exact ih (Memory.wf_write h a v) _

/-- A read gives the byte last written to the address. -/
theorem Memory.read_write_same {m : Memory} (h : m.wf = true) (a : Word) (v : Byte) : (m.write a v).read a = v := by
  simp [Memory.read, Memory.write, Memory.readNat_writeNat h]

/-- A write leaves every other address alone. -/
theorem Memory.read_write_other {m : Memory} (h : m.wf = true) {a b : Word} (hne : b ≠ a) (v : Byte) :
    (m.write a v).read b = m.read b := by
  have : b.toNat ≠ a.toNat := fun e => hne (BitVec.eq_of_toNat_eq e)
  simp [Memory.read, Memory.write, Memory.readNat_writeNat h, this]

end Sys2Proof.Machine
end

