-- ==== Sys2Proof/Laws/PerInstr.lean ====
section
/-! SUPPORT. Per instruction: its encoding is in the admitted set of 30_encoding.md R96 (as `admitted` states it,
independently of the decoder) and is one to four bytes long (R98). -/

namespace Sys2Proof.Laws.EncodingAdmitted

/-- The encoding is admitted, and one to four bytes long. -/
def Statement (i : Instr) : Prop :=
  admitted (encode i) = true ∧ (decide (1 ≤ (encode i).length) && decide ((encode i).length ≤ 4)) = true

theorem ld_BC_nn (nn : Word) :
    Statement (.ld_BC_nn nn) := ⟨rfl, rfl⟩

theorem ld_B_n (n : Byte) :
    Statement (.ld_B_n n) := ⟨rfl, rfl⟩

theorem ld_C_n (n : Byte) :
    Statement (.ld_C_n n) := ⟨rfl, rfl⟩

theorem djnz_e (e : Byte) :
    Statement (.djnz_e e) := ⟨rfl, rfl⟩

theorem ld_DE_nn (nn : Word) :
    Statement (.ld_DE_nn nn) := ⟨rfl, rfl⟩

theorem ld_D_n (n : Byte) :
    Statement (.ld_D_n n) := ⟨rfl, rfl⟩

theorem jr_e (e : Byte) :
    Statement (.jr_e e) := ⟨rfl, rfl⟩

theorem ld_E_n (n : Byte) :
    Statement (.ld_E_n n) := ⟨rfl, rfl⟩

theorem jr_NZ_e (e : Byte) :
    Statement (.jr_NZ_e e) := ⟨rfl, rfl⟩

theorem ld_HL_nn (nn : Word) :
    Statement (.ld_HL_nn nn) := ⟨rfl, rfl⟩

theorem ld_mnn_HL (nn : Word) :
    Statement (.ld_mnn_HL nn) := ⟨rfl, rfl⟩

theorem ld_H_n (n : Byte) :
    Statement (.ld_H_n n) := ⟨rfl, rfl⟩

theorem jr_Z_e (e : Byte) :
    Statement (.jr_Z_e e) := ⟨rfl, rfl⟩

theorem ld_HL_mnn (nn : Word) :
    Statement (.ld_HL_mnn nn) := ⟨rfl, rfl⟩

theorem ld_L_n (n : Byte) :
    Statement (.ld_L_n n) := ⟨rfl, rfl⟩

theorem jr_NC_e (e : Byte) :
    Statement (.jr_NC_e e) := ⟨rfl, rfl⟩

theorem ld_SP_nn (nn : Word) :
    Statement (.ld_SP_nn nn) := ⟨rfl, rfl⟩

theorem ld_mnn_A (nn : Word) :
    Statement (.ld_mnn_A nn) := ⟨rfl, rfl⟩

theorem ld_mHL_n (n : Byte) :
    Statement (.ld_mHL_n n) := ⟨rfl, rfl⟩

theorem jr_C_e (e : Byte) :
    Statement (.jr_C_e e) := ⟨rfl, rfl⟩

theorem ld_A_mnn (nn : Word) :
    Statement (.ld_A_mnn nn) := ⟨rfl, rfl⟩

theorem ld_A_n (n : Byte) :
    Statement (.ld_A_n n) := ⟨rfl, rfl⟩

theorem jp_NZ_nn (nn : Word) :
    Statement (.jp_NZ_nn nn) := ⟨rfl, rfl⟩

theorem jp_nn (nn : Word) :
    Statement (.jp_nn nn) := ⟨rfl, rfl⟩

theorem call_NZ_nn (nn : Word) :
    Statement (.call_NZ_nn nn) := ⟨rfl, rfl⟩

theorem add_A_n (n : Byte) :
    Statement (.add_A_n n) := ⟨rfl, rfl⟩

theorem jp_Z_nn (nn : Word) :
    Statement (.jp_Z_nn nn) := ⟨rfl, rfl⟩

theorem call_Z_nn (nn : Word) :
    Statement (.call_Z_nn nn) := ⟨rfl, rfl⟩

theorem call_nn (nn : Word) :
    Statement (.call_nn nn) := ⟨rfl, rfl⟩

theorem adc_A_n (n : Byte) :
    Statement (.adc_A_n n) := ⟨rfl, rfl⟩

theorem jp_NC_nn (nn : Word) :
    Statement (.jp_NC_nn nn) := ⟨rfl, rfl⟩

theorem out_pn_A (n : Byte) :
    Statement (.out_pn_A n) := ⟨rfl, rfl⟩

theorem call_NC_nn (nn : Word) :
    Statement (.call_NC_nn nn) := ⟨rfl, rfl⟩

theorem sub_n (n : Byte) :
    Statement (.sub_n n) := ⟨rfl, rfl⟩

theorem jp_C_nn (nn : Word) :
    Statement (.jp_C_nn nn) := ⟨rfl, rfl⟩

theorem in_A_pn (n : Byte) :
    Statement (.in_A_pn n) := ⟨rfl, rfl⟩

theorem call_C_nn (nn : Word) :
    Statement (.call_C_nn nn) := ⟨rfl, rfl⟩

theorem sbc_A_n (n : Byte) :
    Statement (.sbc_A_n n) := ⟨rfl, rfl⟩

theorem jp_PO_nn (nn : Word) :
    Statement (.jp_PO_nn nn) := ⟨rfl, rfl⟩

theorem call_PO_nn (nn : Word) :
    Statement (.call_PO_nn nn) := ⟨rfl, rfl⟩

theorem and_n (n : Byte) :
    Statement (.and_n n) := ⟨rfl, rfl⟩

theorem jp_PE_nn (nn : Word) :
    Statement (.jp_PE_nn nn) := ⟨rfl, rfl⟩

theorem call_PE_nn (nn : Word) :
    Statement (.call_PE_nn nn) := ⟨rfl, rfl⟩

theorem xor_n (n : Byte) :
    Statement (.xor_n n) := ⟨rfl, rfl⟩

theorem jp_P_nn (nn : Word) :
    Statement (.jp_P_nn nn) := ⟨rfl, rfl⟩

theorem call_P_nn (nn : Word) :
    Statement (.call_P_nn nn) := ⟨rfl, rfl⟩

theorem or_n (n : Byte) :
    Statement (.or_n n) := ⟨rfl, rfl⟩

theorem jp_M_nn (nn : Word) :
    Statement (.jp_M_nn nn) := ⟨rfl, rfl⟩

theorem call_M_nn (nn : Word) :
    Statement (.call_M_nn nn) := ⟨rfl, rfl⟩

theorem cp_n (n : Byte) :
    Statement (.cp_n n) := ⟨rfl, rfl⟩

theorem ld_mnn_BC (nn : Word) :
    Statement (.ld_mnn_BC nn) := ⟨rfl, rfl⟩

theorem ld_BC_mnn (nn : Word) :
    Statement (.ld_BC_mnn nn) := ⟨rfl, rfl⟩

theorem ld_mnn_DE (nn : Word) :
    Statement (.ld_mnn_DE nn) := ⟨rfl, rfl⟩

theorem ld_DE_mnn (nn : Word) :
    Statement (.ld_DE_mnn nn) := ⟨rfl, rfl⟩

theorem ld_mnn_HL_ed (nn : Word) :
    Statement (.ld_mnn_HL_ed nn) := ⟨rfl, rfl⟩

theorem ld_HL_mnn_ed (nn : Word) :
    Statement (.ld_HL_mnn_ed nn) := ⟨rfl, rfl⟩

theorem ld_mnn_SP (nn : Word) :
    Statement (.ld_mnn_SP nn) := ⟨rfl, rfl⟩

theorem ld_SP_mnn (nn : Word) :
    Statement (.ld_SP_mnn nn) := ⟨rfl, rfl⟩

theorem ld_IX_nn (nn : Word) :
    Statement (.ld_IX_nn nn) := ⟨rfl, rfl⟩

theorem ld_mnn_IX (nn : Word) :
    Statement (.ld_mnn_IX nn) := ⟨rfl, rfl⟩

theorem ld_IXh_n (n : Byte) :
    Statement (.ld_IXh_n n) := ⟨rfl, rfl⟩

theorem ld_IX_mnn (nn : Word) :
    Statement (.ld_IX_mnn nn) := ⟨rfl, rfl⟩

theorem ld_IXl_n (n : Byte) :
    Statement (.ld_IXl_n n) := ⟨rfl, rfl⟩

theorem inc_mIXd (d : Byte) :
    Statement (.inc_mIXd d) := ⟨rfl, rfl⟩

theorem dec_mIXd (d : Byte) :
    Statement (.dec_mIXd d) := ⟨rfl, rfl⟩

theorem ld_mIXd_n (d : Byte) (n : Byte) :
    Statement (.ld_mIXd_n d n) := ⟨rfl, rfl⟩

theorem ld_B_mIXd (d : Byte) :
    Statement (.ld_B_mIXd d) := ⟨rfl, rfl⟩

theorem ld_C_mIXd (d : Byte) :
    Statement (.ld_C_mIXd d) := ⟨rfl, rfl⟩

theorem ld_D_mIXd (d : Byte) :
    Statement (.ld_D_mIXd d) := ⟨rfl, rfl⟩

theorem ld_E_mIXd (d : Byte) :
    Statement (.ld_E_mIXd d) := ⟨rfl, rfl⟩

theorem ld_H_mIXd (d : Byte) :
    Statement (.ld_H_mIXd d) := ⟨rfl, rfl⟩

theorem ld_L_mIXd (d : Byte) :
    Statement (.ld_L_mIXd d) := ⟨rfl, rfl⟩

theorem ld_mIXd_B (d : Byte) :
    Statement (.ld_mIXd_B d) := ⟨rfl, rfl⟩

theorem ld_mIXd_C (d : Byte) :
    Statement (.ld_mIXd_C d) := ⟨rfl, rfl⟩

theorem ld_mIXd_D (d : Byte) :
    Statement (.ld_mIXd_D d) := ⟨rfl, rfl⟩

theorem ld_mIXd_E (d : Byte) :
    Statement (.ld_mIXd_E d) := ⟨rfl, rfl⟩

theorem ld_mIXd_H (d : Byte) :
    Statement (.ld_mIXd_H d) := ⟨rfl, rfl⟩

theorem ld_mIXd_L (d : Byte) :
    Statement (.ld_mIXd_L d) := ⟨rfl, rfl⟩

theorem ld_mIXd_A (d : Byte) :
    Statement (.ld_mIXd_A d) := ⟨rfl, rfl⟩

theorem ld_A_mIXd (d : Byte) :
    Statement (.ld_A_mIXd d) := ⟨rfl, rfl⟩

theorem add_A_mIXd (d : Byte) :
    Statement (.add_A_mIXd d) := ⟨rfl, rfl⟩

theorem adc_A_mIXd (d : Byte) :
    Statement (.adc_A_mIXd d) := ⟨rfl, rfl⟩

theorem sub_mIXd (d : Byte) :
    Statement (.sub_mIXd d) := ⟨rfl, rfl⟩

theorem sbc_A_mIXd (d : Byte) :
    Statement (.sbc_A_mIXd d) := ⟨rfl, rfl⟩

theorem and_mIXd (d : Byte) :
    Statement (.and_mIXd d) := ⟨rfl, rfl⟩

theorem xor_mIXd (d : Byte) :
    Statement (.xor_mIXd d) := ⟨rfl, rfl⟩

theorem or_mIXd (d : Byte) :
    Statement (.or_mIXd d) := ⟨rfl, rfl⟩

theorem cp_mIXd (d : Byte) :
    Statement (.cp_mIXd d) := ⟨rfl, rfl⟩

theorem rlc_mIXd (d : Byte) :
    Statement (.rlc_mIXd d) := ⟨rfl, rfl⟩

theorem rrc_mIXd (d : Byte) :
    Statement (.rrc_mIXd d) := ⟨rfl, rfl⟩

theorem rl_mIXd (d : Byte) :
    Statement (.rl_mIXd d) := ⟨rfl, rfl⟩

theorem rr_mIXd (d : Byte) :
    Statement (.rr_mIXd d) := ⟨rfl, rfl⟩

theorem sla_mIXd (d : Byte) :
    Statement (.sla_mIXd d) := ⟨rfl, rfl⟩

theorem sra_mIXd (d : Byte) :
    Statement (.sra_mIXd d) := ⟨rfl, rfl⟩

theorem srl_mIXd (d : Byte) :
    Statement (.srl_mIXd d) := ⟨rfl, rfl⟩

theorem bit_0_mIXd (d : Byte) :
    Statement (.bit_0_mIXd d) := ⟨rfl, rfl⟩

theorem bit_1_mIXd (d : Byte) :
    Statement (.bit_1_mIXd d) := ⟨rfl, rfl⟩

theorem bit_2_mIXd (d : Byte) :
    Statement (.bit_2_mIXd d) := ⟨rfl, rfl⟩

theorem bit_3_mIXd (d : Byte) :
    Statement (.bit_3_mIXd d) := ⟨rfl, rfl⟩

theorem bit_4_mIXd (d : Byte) :
    Statement (.bit_4_mIXd d) := ⟨rfl, rfl⟩

theorem bit_5_mIXd (d : Byte) :
    Statement (.bit_5_mIXd d) := ⟨rfl, rfl⟩

theorem bit_6_mIXd (d : Byte) :
    Statement (.bit_6_mIXd d) := ⟨rfl, rfl⟩

theorem bit_7_mIXd (d : Byte) :
    Statement (.bit_7_mIXd d) := ⟨rfl, rfl⟩

theorem res_0_mIXd (d : Byte) :
    Statement (.res_0_mIXd d) := ⟨rfl, rfl⟩

theorem res_1_mIXd (d : Byte) :
    Statement (.res_1_mIXd d) := ⟨rfl, rfl⟩

theorem res_2_mIXd (d : Byte) :
    Statement (.res_2_mIXd d) := ⟨rfl, rfl⟩

theorem res_3_mIXd (d : Byte) :
    Statement (.res_3_mIXd d) := ⟨rfl, rfl⟩

theorem res_4_mIXd (d : Byte) :
    Statement (.res_4_mIXd d) := ⟨rfl, rfl⟩

theorem res_5_mIXd (d : Byte) :
    Statement (.res_5_mIXd d) := ⟨rfl, rfl⟩

theorem res_6_mIXd (d : Byte) :
    Statement (.res_6_mIXd d) := ⟨rfl, rfl⟩

theorem res_7_mIXd (d : Byte) :
    Statement (.res_7_mIXd d) := ⟨rfl, rfl⟩

theorem set_0_mIXd (d : Byte) :
    Statement (.set_0_mIXd d) := ⟨rfl, rfl⟩

theorem set_1_mIXd (d : Byte) :
    Statement (.set_1_mIXd d) := ⟨rfl, rfl⟩

theorem set_2_mIXd (d : Byte) :
    Statement (.set_2_mIXd d) := ⟨rfl, rfl⟩

theorem set_3_mIXd (d : Byte) :
    Statement (.set_3_mIXd d) := ⟨rfl, rfl⟩

theorem set_4_mIXd (d : Byte) :
    Statement (.set_4_mIXd d) := ⟨rfl, rfl⟩

theorem set_5_mIXd (d : Byte) :
    Statement (.set_5_mIXd d) := ⟨rfl, rfl⟩

theorem set_6_mIXd (d : Byte) :
    Statement (.set_6_mIXd d) := ⟨rfl, rfl⟩

theorem set_7_mIXd (d : Byte) :
    Statement (.set_7_mIXd d) := ⟨rfl, rfl⟩

theorem ld_IY_nn (nn : Word) :
    Statement (.ld_IY_nn nn) := ⟨rfl, rfl⟩

theorem ld_mnn_IY (nn : Word) :
    Statement (.ld_mnn_IY nn) := ⟨rfl, rfl⟩

theorem ld_IYh_n (n : Byte) :
    Statement (.ld_IYh_n n) := ⟨rfl, rfl⟩

theorem ld_IY_mnn (nn : Word) :
    Statement (.ld_IY_mnn nn) := ⟨rfl, rfl⟩

theorem ld_IYl_n (n : Byte) :
    Statement (.ld_IYl_n n) := ⟨rfl, rfl⟩

theorem inc_mIYd (d : Byte) :
    Statement (.inc_mIYd d) := ⟨rfl, rfl⟩

theorem dec_mIYd (d : Byte) :
    Statement (.dec_mIYd d) := ⟨rfl, rfl⟩

theorem ld_mIYd_n (d : Byte) (n : Byte) :
    Statement (.ld_mIYd_n d n) := ⟨rfl, rfl⟩

theorem ld_B_mIYd (d : Byte) :
    Statement (.ld_B_mIYd d) := ⟨rfl, rfl⟩

theorem ld_C_mIYd (d : Byte) :
    Statement (.ld_C_mIYd d) := ⟨rfl, rfl⟩

theorem ld_D_mIYd (d : Byte) :
    Statement (.ld_D_mIYd d) := ⟨rfl, rfl⟩

theorem ld_E_mIYd (d : Byte) :
    Statement (.ld_E_mIYd d) := ⟨rfl, rfl⟩

theorem ld_H_mIYd (d : Byte) :
    Statement (.ld_H_mIYd d) := ⟨rfl, rfl⟩

theorem ld_L_mIYd (d : Byte) :
    Statement (.ld_L_mIYd d) := ⟨rfl, rfl⟩

theorem ld_mIYd_B (d : Byte) :
    Statement (.ld_mIYd_B d) := ⟨rfl, rfl⟩

theorem ld_mIYd_C (d : Byte) :
    Statement (.ld_mIYd_C d) := ⟨rfl, rfl⟩

theorem ld_mIYd_D (d : Byte) :
    Statement (.ld_mIYd_D d) := ⟨rfl, rfl⟩

theorem ld_mIYd_E (d : Byte) :
    Statement (.ld_mIYd_E d) := ⟨rfl, rfl⟩

theorem ld_mIYd_H (d : Byte) :
    Statement (.ld_mIYd_H d) := ⟨rfl, rfl⟩

theorem ld_mIYd_L (d : Byte) :
    Statement (.ld_mIYd_L d) := ⟨rfl, rfl⟩

theorem ld_mIYd_A (d : Byte) :
    Statement (.ld_mIYd_A d) := ⟨rfl, rfl⟩

theorem ld_A_mIYd (d : Byte) :
    Statement (.ld_A_mIYd d) := ⟨rfl, rfl⟩

theorem add_A_mIYd (d : Byte) :
    Statement (.add_A_mIYd d) := ⟨rfl, rfl⟩

theorem adc_A_mIYd (d : Byte) :
    Statement (.adc_A_mIYd d) := ⟨rfl, rfl⟩

theorem sub_mIYd (d : Byte) :
    Statement (.sub_mIYd d) := ⟨rfl, rfl⟩

theorem sbc_A_mIYd (d : Byte) :
    Statement (.sbc_A_mIYd d) := ⟨rfl, rfl⟩

theorem and_mIYd (d : Byte) :
    Statement (.and_mIYd d) := ⟨rfl, rfl⟩

theorem xor_mIYd (d : Byte) :
    Statement (.xor_mIYd d) := ⟨rfl, rfl⟩

theorem or_mIYd (d : Byte) :
    Statement (.or_mIYd d) := ⟨rfl, rfl⟩

theorem cp_mIYd (d : Byte) :
    Statement (.cp_mIYd d) := ⟨rfl, rfl⟩

theorem rlc_mIYd (d : Byte) :
    Statement (.rlc_mIYd d) := ⟨rfl, rfl⟩

theorem rrc_mIYd (d : Byte) :
    Statement (.rrc_mIYd d) := ⟨rfl, rfl⟩

theorem rl_mIYd (d : Byte) :
    Statement (.rl_mIYd d) := ⟨rfl, rfl⟩

theorem rr_mIYd (d : Byte) :
    Statement (.rr_mIYd d) := ⟨rfl, rfl⟩

theorem sla_mIYd (d : Byte) :
    Statement (.sla_mIYd d) := ⟨rfl, rfl⟩

theorem sra_mIYd (d : Byte) :
    Statement (.sra_mIYd d) := ⟨rfl, rfl⟩

theorem srl_mIYd (d : Byte) :
    Statement (.srl_mIYd d) := ⟨rfl, rfl⟩

theorem bit_0_mIYd (d : Byte) :
    Statement (.bit_0_mIYd d) := ⟨rfl, rfl⟩

theorem bit_1_mIYd (d : Byte) :
    Statement (.bit_1_mIYd d) := ⟨rfl, rfl⟩

theorem bit_2_mIYd (d : Byte) :
    Statement (.bit_2_mIYd d) := ⟨rfl, rfl⟩

theorem bit_3_mIYd (d : Byte) :
    Statement (.bit_3_mIYd d) := ⟨rfl, rfl⟩

theorem bit_4_mIYd (d : Byte) :
    Statement (.bit_4_mIYd d) := ⟨rfl, rfl⟩

theorem bit_5_mIYd (d : Byte) :
    Statement (.bit_5_mIYd d) := ⟨rfl, rfl⟩

theorem bit_6_mIYd (d : Byte) :
    Statement (.bit_6_mIYd d) := ⟨rfl, rfl⟩

theorem bit_7_mIYd (d : Byte) :
    Statement (.bit_7_mIYd d) := ⟨rfl, rfl⟩

theorem res_0_mIYd (d : Byte) :
    Statement (.res_0_mIYd d) := ⟨rfl, rfl⟩

theorem res_1_mIYd (d : Byte) :
    Statement (.res_1_mIYd d) := ⟨rfl, rfl⟩

theorem res_2_mIYd (d : Byte) :
    Statement (.res_2_mIYd d) := ⟨rfl, rfl⟩

theorem res_3_mIYd (d : Byte) :
    Statement (.res_3_mIYd d) := ⟨rfl, rfl⟩

theorem res_4_mIYd (d : Byte) :
    Statement (.res_4_mIYd d) := ⟨rfl, rfl⟩

theorem res_5_mIYd (d : Byte) :
    Statement (.res_5_mIYd d) := ⟨rfl, rfl⟩

theorem res_6_mIYd (d : Byte) :
    Statement (.res_6_mIYd d) := ⟨rfl, rfl⟩

theorem res_7_mIYd (d : Byte) :
    Statement (.res_7_mIYd d) := ⟨rfl, rfl⟩

theorem set_0_mIYd (d : Byte) :
    Statement (.set_0_mIYd d) := ⟨rfl, rfl⟩

theorem set_1_mIYd (d : Byte) :
    Statement (.set_1_mIYd d) := ⟨rfl, rfl⟩

theorem set_2_mIYd (d : Byte) :
    Statement (.set_2_mIYd d) := ⟨rfl, rfl⟩

theorem set_3_mIYd (d : Byte) :
    Statement (.set_3_mIYd d) := ⟨rfl, rfl⟩

theorem set_4_mIYd (d : Byte) :
    Statement (.set_4_mIYd d) := ⟨rfl, rfl⟩

theorem set_5_mIYd (d : Byte) :
    Statement (.set_5_mIYd d) := ⟨rfl, rfl⟩

theorem set_6_mIYd (d : Byte) :
    Statement (.set_6_mIYd d) := ⟨rfl, rfl⟩

theorem set_7_mIYd (d : Byte) :
    Statement (.set_7_mIYd d) := ⟨rfl, rfl⟩

theorem nop :
    Statement (.nop) := ⟨rfl, rfl⟩

theorem ld_mBC_A :
    Statement (.ld_mBC_A) := ⟨rfl, rfl⟩

theorem inc_BC :
    Statement (.inc_BC) := ⟨rfl, rfl⟩

theorem inc_B :
    Statement (.inc_B) := ⟨rfl, rfl⟩

theorem dec_B :
    Statement (.dec_B) := ⟨rfl, rfl⟩

theorem rlca :
    Statement (.rlca) := ⟨rfl, rfl⟩

theorem ex_AF_AFs :
    Statement (.ex_AF_AFs) := ⟨rfl, rfl⟩

theorem add_HL_BC :
    Statement (.add_HL_BC) := ⟨rfl, rfl⟩

theorem ld_A_mBC :
    Statement (.ld_A_mBC) := ⟨rfl, rfl⟩

theorem dec_BC :
    Statement (.dec_BC) := ⟨rfl, rfl⟩

theorem inc_C :
    Statement (.inc_C) := ⟨rfl, rfl⟩

theorem dec_C :
    Statement (.dec_C) := ⟨rfl, rfl⟩

theorem rrca :
    Statement (.rrca) := ⟨rfl, rfl⟩

theorem ld_mDE_A :
    Statement (.ld_mDE_A) := ⟨rfl, rfl⟩

theorem inc_DE :
    Statement (.inc_DE) := ⟨rfl, rfl⟩

theorem inc_D :
    Statement (.inc_D) := ⟨rfl, rfl⟩

theorem dec_D :
    Statement (.dec_D) := ⟨rfl, rfl⟩

theorem rla :
    Statement (.rla) := ⟨rfl, rfl⟩

theorem add_HL_DE :
    Statement (.add_HL_DE) := ⟨rfl, rfl⟩

theorem ld_A_mDE :
    Statement (.ld_A_mDE) := ⟨rfl, rfl⟩

theorem dec_DE :
    Statement (.dec_DE) := ⟨rfl, rfl⟩

theorem inc_E :
    Statement (.inc_E) := ⟨rfl, rfl⟩

theorem dec_E :
    Statement (.dec_E) := ⟨rfl, rfl⟩

theorem rra :
    Statement (.rra) := ⟨rfl, rfl⟩

theorem inc_HL :
    Statement (.inc_HL) := ⟨rfl, rfl⟩

theorem inc_H :
    Statement (.inc_H) := ⟨rfl, rfl⟩

theorem dec_H :
    Statement (.dec_H) := ⟨rfl, rfl⟩

theorem daa :
    Statement (.daa) := ⟨rfl, rfl⟩

theorem add_HL_HL :
    Statement (.add_HL_HL) := ⟨rfl, rfl⟩

theorem dec_HL :
    Statement (.dec_HL) := ⟨rfl, rfl⟩

theorem inc_L :
    Statement (.inc_L) := ⟨rfl, rfl⟩

theorem dec_L :
    Statement (.dec_L) := ⟨rfl, rfl⟩

theorem cpl :
    Statement (.cpl) := ⟨rfl, rfl⟩

theorem inc_SP :
    Statement (.inc_SP) := ⟨rfl, rfl⟩

theorem inc_mHL :
    Statement (.inc_mHL) := ⟨rfl, rfl⟩

theorem dec_mHL :
    Statement (.dec_mHL) := ⟨rfl, rfl⟩

theorem scf :
    Statement (.scf) := ⟨rfl, rfl⟩

theorem add_HL_SP :
    Statement (.add_HL_SP) := ⟨rfl, rfl⟩

theorem dec_SP :
    Statement (.dec_SP) := ⟨rfl, rfl⟩

theorem inc_A :
    Statement (.inc_A) := ⟨rfl, rfl⟩

theorem dec_A :
    Statement (.dec_A) := ⟨rfl, rfl⟩

theorem ccf :
    Statement (.ccf) := ⟨rfl, rfl⟩

theorem ld_B_B :
    Statement (.ld_B_B) := ⟨rfl, rfl⟩

theorem ld_B_C :
    Statement (.ld_B_C) := ⟨rfl, rfl⟩

theorem ld_B_D :
    Statement (.ld_B_D) := ⟨rfl, rfl⟩

theorem ld_B_E :
    Statement (.ld_B_E) := ⟨rfl, rfl⟩

theorem ld_B_H :
    Statement (.ld_B_H) := ⟨rfl, rfl⟩

theorem ld_B_L :
    Statement (.ld_B_L) := ⟨rfl, rfl⟩

theorem ld_B_mHL :
    Statement (.ld_B_mHL) := ⟨rfl, rfl⟩

theorem ld_B_A :
    Statement (.ld_B_A) := ⟨rfl, rfl⟩

theorem ld_C_B :
    Statement (.ld_C_B) := ⟨rfl, rfl⟩

theorem ld_C_C :
    Statement (.ld_C_C) := ⟨rfl, rfl⟩

theorem ld_C_D :
    Statement (.ld_C_D) := ⟨rfl, rfl⟩

theorem ld_C_E :
    Statement (.ld_C_E) := ⟨rfl, rfl⟩

theorem ld_C_H :
    Statement (.ld_C_H) := ⟨rfl, rfl⟩

theorem ld_C_L :
    Statement (.ld_C_L) := ⟨rfl, rfl⟩

theorem ld_C_mHL :
    Statement (.ld_C_mHL) := ⟨rfl, rfl⟩

theorem ld_C_A :
    Statement (.ld_C_A) := ⟨rfl, rfl⟩

theorem ld_D_B :
    Statement (.ld_D_B) := ⟨rfl, rfl⟩

theorem ld_D_C :
    Statement (.ld_D_C) := ⟨rfl, rfl⟩

theorem ld_D_D :
    Statement (.ld_D_D) := ⟨rfl, rfl⟩

theorem ld_D_E :
    Statement (.ld_D_E) := ⟨rfl, rfl⟩

theorem ld_D_H :
    Statement (.ld_D_H) := ⟨rfl, rfl⟩

theorem ld_D_L :
    Statement (.ld_D_L) := ⟨rfl, rfl⟩

theorem ld_D_mHL :
    Statement (.ld_D_mHL) := ⟨rfl, rfl⟩

theorem ld_D_A :
    Statement (.ld_D_A) := ⟨rfl, rfl⟩

theorem ld_E_B :
    Statement (.ld_E_B) := ⟨rfl, rfl⟩

theorem ld_E_C :
    Statement (.ld_E_C) := ⟨rfl, rfl⟩

theorem ld_E_D :
    Statement (.ld_E_D) := ⟨rfl, rfl⟩

theorem ld_E_E :
    Statement (.ld_E_E) := ⟨rfl, rfl⟩

theorem ld_E_H :
    Statement (.ld_E_H) := ⟨rfl, rfl⟩

theorem ld_E_L :
    Statement (.ld_E_L) := ⟨rfl, rfl⟩

theorem ld_E_mHL :
    Statement (.ld_E_mHL) := ⟨rfl, rfl⟩

theorem ld_E_A :
    Statement (.ld_E_A) := ⟨rfl, rfl⟩

theorem ld_H_B :
    Statement (.ld_H_B) := ⟨rfl, rfl⟩

theorem ld_H_C :
    Statement (.ld_H_C) := ⟨rfl, rfl⟩

theorem ld_H_D :
    Statement (.ld_H_D) := ⟨rfl, rfl⟩

theorem ld_H_E :
    Statement (.ld_H_E) := ⟨rfl, rfl⟩

theorem ld_H_H :
    Statement (.ld_H_H) := ⟨rfl, rfl⟩

theorem ld_H_L :
    Statement (.ld_H_L) := ⟨rfl, rfl⟩

theorem ld_H_mHL :
    Statement (.ld_H_mHL) := ⟨rfl, rfl⟩

theorem ld_H_A :
    Statement (.ld_H_A) := ⟨rfl, rfl⟩

theorem ld_L_B :
    Statement (.ld_L_B) := ⟨rfl, rfl⟩

theorem ld_L_C :
    Statement (.ld_L_C) := ⟨rfl, rfl⟩

theorem ld_L_D :
    Statement (.ld_L_D) := ⟨rfl, rfl⟩

theorem ld_L_E :
    Statement (.ld_L_E) := ⟨rfl, rfl⟩

theorem ld_L_H :
    Statement (.ld_L_H) := ⟨rfl, rfl⟩

theorem ld_L_L :
    Statement (.ld_L_L) := ⟨rfl, rfl⟩

theorem ld_L_mHL :
    Statement (.ld_L_mHL) := ⟨rfl, rfl⟩

theorem ld_L_A :
    Statement (.ld_L_A) := ⟨rfl, rfl⟩

theorem ld_mHL_B :
    Statement (.ld_mHL_B) := ⟨rfl, rfl⟩

theorem ld_mHL_C :
    Statement (.ld_mHL_C) := ⟨rfl, rfl⟩

theorem ld_mHL_D :
    Statement (.ld_mHL_D) := ⟨rfl, rfl⟩

theorem ld_mHL_E :
    Statement (.ld_mHL_E) := ⟨rfl, rfl⟩

theorem ld_mHL_H :
    Statement (.ld_mHL_H) := ⟨rfl, rfl⟩

theorem ld_mHL_L :
    Statement (.ld_mHL_L) := ⟨rfl, rfl⟩

theorem halt :
    Statement (.halt) := ⟨rfl, rfl⟩

theorem ld_mHL_A :
    Statement (.ld_mHL_A) := ⟨rfl, rfl⟩

theorem ld_A_B :
    Statement (.ld_A_B) := ⟨rfl, rfl⟩

theorem ld_A_C :
    Statement (.ld_A_C) := ⟨rfl, rfl⟩

theorem ld_A_D :
    Statement (.ld_A_D) := ⟨rfl, rfl⟩

theorem ld_A_E :
    Statement (.ld_A_E) := ⟨rfl, rfl⟩

theorem ld_A_H :
    Statement (.ld_A_H) := ⟨rfl, rfl⟩

theorem ld_A_L :
    Statement (.ld_A_L) := ⟨rfl, rfl⟩

theorem ld_A_mHL :
    Statement (.ld_A_mHL) := ⟨rfl, rfl⟩

theorem ld_A_A :
    Statement (.ld_A_A) := ⟨rfl, rfl⟩

theorem add_A_B :
    Statement (.add_A_B) := ⟨rfl, rfl⟩

theorem add_A_C :
    Statement (.add_A_C) := ⟨rfl, rfl⟩

theorem add_A_D :
    Statement (.add_A_D) := ⟨rfl, rfl⟩

theorem add_A_E :
    Statement (.add_A_E) := ⟨rfl, rfl⟩

theorem add_A_H :
    Statement (.add_A_H) := ⟨rfl, rfl⟩

theorem add_A_L :
    Statement (.add_A_L) := ⟨rfl, rfl⟩

theorem add_A_mHL :
    Statement (.add_A_mHL) := ⟨rfl, rfl⟩

theorem add_A_A :
    Statement (.add_A_A) := ⟨rfl, rfl⟩

theorem adc_A_B :
    Statement (.adc_A_B) := ⟨rfl, rfl⟩

theorem adc_A_C :
    Statement (.adc_A_C) := ⟨rfl, rfl⟩

theorem adc_A_D :
    Statement (.adc_A_D) := ⟨rfl, rfl⟩

theorem adc_A_E :
    Statement (.adc_A_E) := ⟨rfl, rfl⟩

theorem adc_A_H :
    Statement (.adc_A_H) := ⟨rfl, rfl⟩

theorem adc_A_L :
    Statement (.adc_A_L) := ⟨rfl, rfl⟩

theorem adc_A_mHL :
    Statement (.adc_A_mHL) := ⟨rfl, rfl⟩

theorem adc_A_A :
    Statement (.adc_A_A) := ⟨rfl, rfl⟩

theorem sub_B :
    Statement (.sub_B) := ⟨rfl, rfl⟩

theorem sub_C :
    Statement (.sub_C) := ⟨rfl, rfl⟩

theorem sub_D :
    Statement (.sub_D) := ⟨rfl, rfl⟩

theorem sub_E :
    Statement (.sub_E) := ⟨rfl, rfl⟩

theorem sub_H :
    Statement (.sub_H) := ⟨rfl, rfl⟩

theorem sub_L :
    Statement (.sub_L) := ⟨rfl, rfl⟩

theorem sub_mHL :
    Statement (.sub_mHL) := ⟨rfl, rfl⟩

theorem sub_A :
    Statement (.sub_A) := ⟨rfl, rfl⟩

theorem sbc_A_B :
    Statement (.sbc_A_B) := ⟨rfl, rfl⟩

theorem sbc_A_C :
    Statement (.sbc_A_C) := ⟨rfl, rfl⟩

theorem sbc_A_D :
    Statement (.sbc_A_D) := ⟨rfl, rfl⟩

theorem sbc_A_E :
    Statement (.sbc_A_E) := ⟨rfl, rfl⟩

theorem sbc_A_H :
    Statement (.sbc_A_H) := ⟨rfl, rfl⟩

theorem sbc_A_L :
    Statement (.sbc_A_L) := ⟨rfl, rfl⟩

theorem sbc_A_mHL :
    Statement (.sbc_A_mHL) := ⟨rfl, rfl⟩

theorem sbc_A_A :
    Statement (.sbc_A_A) := ⟨rfl, rfl⟩

theorem and_B :
    Statement (.and_B) := ⟨rfl, rfl⟩

theorem and_C :
    Statement (.and_C) := ⟨rfl, rfl⟩

theorem and_D :
    Statement (.and_D) := ⟨rfl, rfl⟩

theorem and_E :
    Statement (.and_E) := ⟨rfl, rfl⟩

theorem and_H :
    Statement (.and_H) := ⟨rfl, rfl⟩

theorem and_L :
    Statement (.and_L) := ⟨rfl, rfl⟩

theorem and_mHL :
    Statement (.and_mHL) := ⟨rfl, rfl⟩

theorem and_A :
    Statement (.and_A) := ⟨rfl, rfl⟩

theorem xor_B :
    Statement (.xor_B) := ⟨rfl, rfl⟩

theorem xor_C :
    Statement (.xor_C) := ⟨rfl, rfl⟩

theorem xor_D :
    Statement (.xor_D) := ⟨rfl, rfl⟩

theorem xor_E :
    Statement (.xor_E) := ⟨rfl, rfl⟩

theorem xor_H :
    Statement (.xor_H) := ⟨rfl, rfl⟩

theorem xor_L :
    Statement (.xor_L) := ⟨rfl, rfl⟩

theorem xor_mHL :
    Statement (.xor_mHL) := ⟨rfl, rfl⟩

theorem xor_A :
    Statement (.xor_A) := ⟨rfl, rfl⟩

theorem or_B :
    Statement (.or_B) := ⟨rfl, rfl⟩

theorem or_C :
    Statement (.or_C) := ⟨rfl, rfl⟩

theorem or_D :
    Statement (.or_D) := ⟨rfl, rfl⟩

theorem or_E :
    Statement (.or_E) := ⟨rfl, rfl⟩

theorem or_H :
    Statement (.or_H) := ⟨rfl, rfl⟩

theorem or_L :
    Statement (.or_L) := ⟨rfl, rfl⟩

theorem or_mHL :
    Statement (.or_mHL) := ⟨rfl, rfl⟩

theorem or_A :
    Statement (.or_A) := ⟨rfl, rfl⟩

theorem cp_B :
    Statement (.cp_B) := ⟨rfl, rfl⟩

theorem cp_C :
    Statement (.cp_C) := ⟨rfl, rfl⟩

theorem cp_D :
    Statement (.cp_D) := ⟨rfl, rfl⟩

theorem cp_E :
    Statement (.cp_E) := ⟨rfl, rfl⟩

theorem cp_H :
    Statement (.cp_H) := ⟨rfl, rfl⟩

theorem cp_L :
    Statement (.cp_L) := ⟨rfl, rfl⟩

theorem cp_mHL :
    Statement (.cp_mHL) := ⟨rfl, rfl⟩

theorem cp_A :
    Statement (.cp_A) := ⟨rfl, rfl⟩

theorem ret_NZ :
    Statement (.ret_NZ) := ⟨rfl, rfl⟩

theorem pop_BC :
    Statement (.pop_BC) := ⟨rfl, rfl⟩

theorem push_BC :
    Statement (.push_BC) := ⟨rfl, rfl⟩

theorem rst_00H :
    Statement (.rst_00H) := ⟨rfl, rfl⟩

theorem ret_Z :
    Statement (.ret_Z) := ⟨rfl, rfl⟩

theorem ret :
    Statement (.ret) := ⟨rfl, rfl⟩

theorem rst_08H :
    Statement (.rst_08H) := ⟨rfl, rfl⟩

theorem ret_NC :
    Statement (.ret_NC) := ⟨rfl, rfl⟩

theorem pop_DE :
    Statement (.pop_DE) := ⟨rfl, rfl⟩

theorem push_DE :
    Statement (.push_DE) := ⟨rfl, rfl⟩

theorem rst_10H :
    Statement (.rst_10H) := ⟨rfl, rfl⟩

theorem ret_C :
    Statement (.ret_C) := ⟨rfl, rfl⟩

theorem exx :
    Statement (.exx) := ⟨rfl, rfl⟩

theorem rst_18H :
    Statement (.rst_18H) := ⟨rfl, rfl⟩

theorem ret_PO :
    Statement (.ret_PO) := ⟨rfl, rfl⟩

theorem pop_HL :
    Statement (.pop_HL) := ⟨rfl, rfl⟩

theorem ex_mSP_HL :
    Statement (.ex_mSP_HL) := ⟨rfl, rfl⟩

theorem push_HL :
    Statement (.push_HL) := ⟨rfl, rfl⟩

theorem rst_20H :
    Statement (.rst_20H) := ⟨rfl, rfl⟩

theorem ret_PE :
    Statement (.ret_PE) := ⟨rfl, rfl⟩

theorem jp_mHL :
    Statement (.jp_mHL) := ⟨rfl, rfl⟩

theorem ex_DE_HL :
    Statement (.ex_DE_HL) := ⟨rfl, rfl⟩

theorem rst_28H :
    Statement (.rst_28H) := ⟨rfl, rfl⟩

theorem ret_P :
    Statement (.ret_P) := ⟨rfl, rfl⟩

theorem pop_AF :
    Statement (.pop_AF) := ⟨rfl, rfl⟩

theorem di :
    Statement (.di) := ⟨rfl, rfl⟩

theorem push_AF :
    Statement (.push_AF) := ⟨rfl, rfl⟩

theorem rst_30H :
    Statement (.rst_30H) := ⟨rfl, rfl⟩

theorem ret_M :
    Statement (.ret_M) := ⟨rfl, rfl⟩

theorem ld_SP_HL :
    Statement (.ld_SP_HL) := ⟨rfl, rfl⟩

theorem ei :
    Statement (.ei) := ⟨rfl, rfl⟩

theorem rst_38H :
    Statement (.rst_38H) := ⟨rfl, rfl⟩

theorem rlc_B :
    Statement (.rlc_B) := ⟨rfl, rfl⟩

theorem rlc_C :
    Statement (.rlc_C) := ⟨rfl, rfl⟩

theorem rlc_D :
    Statement (.rlc_D) := ⟨rfl, rfl⟩

theorem rlc_E :
    Statement (.rlc_E) := ⟨rfl, rfl⟩

theorem rlc_H :
    Statement (.rlc_H) := ⟨rfl, rfl⟩

theorem rlc_L :
    Statement (.rlc_L) := ⟨rfl, rfl⟩

theorem rlc_mHL :
    Statement (.rlc_mHL) := ⟨rfl, rfl⟩

theorem rlc_A :
    Statement (.rlc_A) := ⟨rfl, rfl⟩

theorem rrc_B :
    Statement (.rrc_B) := ⟨rfl, rfl⟩

theorem rrc_C :
    Statement (.rrc_C) := ⟨rfl, rfl⟩

theorem rrc_D :
    Statement (.rrc_D) := ⟨rfl, rfl⟩

theorem rrc_E :
    Statement (.rrc_E) := ⟨rfl, rfl⟩

theorem rrc_H :
    Statement (.rrc_H) := ⟨rfl, rfl⟩

theorem rrc_L :
    Statement (.rrc_L) := ⟨rfl, rfl⟩

theorem rrc_mHL :
    Statement (.rrc_mHL) := ⟨rfl, rfl⟩

theorem rrc_A :
    Statement (.rrc_A) := ⟨rfl, rfl⟩

theorem rl_B :
    Statement (.rl_B) := ⟨rfl, rfl⟩

theorem rl_C :
    Statement (.rl_C) := ⟨rfl, rfl⟩

theorem rl_D :
    Statement (.rl_D) := ⟨rfl, rfl⟩

theorem rl_E :
    Statement (.rl_E) := ⟨rfl, rfl⟩

theorem rl_H :
    Statement (.rl_H) := ⟨rfl, rfl⟩

theorem rl_L :
    Statement (.rl_L) := ⟨rfl, rfl⟩

theorem rl_mHL :
    Statement (.rl_mHL) := ⟨rfl, rfl⟩

theorem rl_A :
    Statement (.rl_A) := ⟨rfl, rfl⟩

theorem rr_B :
    Statement (.rr_B) := ⟨rfl, rfl⟩

theorem rr_C :
    Statement (.rr_C) := ⟨rfl, rfl⟩

theorem rr_D :
    Statement (.rr_D) := ⟨rfl, rfl⟩

theorem rr_E :
    Statement (.rr_E) := ⟨rfl, rfl⟩

theorem rr_H :
    Statement (.rr_H) := ⟨rfl, rfl⟩

theorem rr_L :
    Statement (.rr_L) := ⟨rfl, rfl⟩

theorem rr_mHL :
    Statement (.rr_mHL) := ⟨rfl, rfl⟩

theorem rr_A :
    Statement (.rr_A) := ⟨rfl, rfl⟩

theorem sla_B :
    Statement (.sla_B) := ⟨rfl, rfl⟩

theorem sla_C :
    Statement (.sla_C) := ⟨rfl, rfl⟩

theorem sla_D :
    Statement (.sla_D) := ⟨rfl, rfl⟩

theorem sla_E :
    Statement (.sla_E) := ⟨rfl, rfl⟩

theorem sla_H :
    Statement (.sla_H) := ⟨rfl, rfl⟩

theorem sla_L :
    Statement (.sla_L) := ⟨rfl, rfl⟩

theorem sla_mHL :
    Statement (.sla_mHL) := ⟨rfl, rfl⟩

theorem sla_A :
    Statement (.sla_A) := ⟨rfl, rfl⟩

theorem sra_B :
    Statement (.sra_B) := ⟨rfl, rfl⟩

theorem sra_C :
    Statement (.sra_C) := ⟨rfl, rfl⟩

theorem sra_D :
    Statement (.sra_D) := ⟨rfl, rfl⟩

theorem sra_E :
    Statement (.sra_E) := ⟨rfl, rfl⟩

theorem sra_H :
    Statement (.sra_H) := ⟨rfl, rfl⟩

theorem sra_L :
    Statement (.sra_L) := ⟨rfl, rfl⟩

theorem sra_mHL :
    Statement (.sra_mHL) := ⟨rfl, rfl⟩

theorem sra_A :
    Statement (.sra_A) := ⟨rfl, rfl⟩

theorem srl_B :
    Statement (.srl_B) := ⟨rfl, rfl⟩

theorem srl_C :
    Statement (.srl_C) := ⟨rfl, rfl⟩

theorem srl_D :
    Statement (.srl_D) := ⟨rfl, rfl⟩

theorem srl_E :
    Statement (.srl_E) := ⟨rfl, rfl⟩

theorem srl_H :
    Statement (.srl_H) := ⟨rfl, rfl⟩

theorem srl_L :
    Statement (.srl_L) := ⟨rfl, rfl⟩

theorem srl_mHL :
    Statement (.srl_mHL) := ⟨rfl, rfl⟩

theorem srl_A :
    Statement (.srl_A) := ⟨rfl, rfl⟩

theorem bit_0_B :
    Statement (.bit_0_B) := ⟨rfl, rfl⟩

theorem bit_0_C :
    Statement (.bit_0_C) := ⟨rfl, rfl⟩

theorem bit_0_D :
    Statement (.bit_0_D) := ⟨rfl, rfl⟩

theorem bit_0_E :
    Statement (.bit_0_E) := ⟨rfl, rfl⟩

theorem bit_0_H :
    Statement (.bit_0_H) := ⟨rfl, rfl⟩

theorem bit_0_L :
    Statement (.bit_0_L) := ⟨rfl, rfl⟩

theorem bit_0_mHL :
    Statement (.bit_0_mHL) := ⟨rfl, rfl⟩

theorem bit_0_A :
    Statement (.bit_0_A) := ⟨rfl, rfl⟩

theorem bit_1_B :
    Statement (.bit_1_B) := ⟨rfl, rfl⟩

theorem bit_1_C :
    Statement (.bit_1_C) := ⟨rfl, rfl⟩

theorem bit_1_D :
    Statement (.bit_1_D) := ⟨rfl, rfl⟩

theorem bit_1_E :
    Statement (.bit_1_E) := ⟨rfl, rfl⟩

theorem bit_1_H :
    Statement (.bit_1_H) := ⟨rfl, rfl⟩

theorem bit_1_L :
    Statement (.bit_1_L) := ⟨rfl, rfl⟩

theorem bit_1_mHL :
    Statement (.bit_1_mHL) := ⟨rfl, rfl⟩

theorem bit_1_A :
    Statement (.bit_1_A) := ⟨rfl, rfl⟩

theorem bit_2_B :
    Statement (.bit_2_B) := ⟨rfl, rfl⟩

theorem bit_2_C :
    Statement (.bit_2_C) := ⟨rfl, rfl⟩

theorem bit_2_D :
    Statement (.bit_2_D) := ⟨rfl, rfl⟩

theorem bit_2_E :
    Statement (.bit_2_E) := ⟨rfl, rfl⟩

theorem bit_2_H :
    Statement (.bit_2_H) := ⟨rfl, rfl⟩

theorem bit_2_L :
    Statement (.bit_2_L) := ⟨rfl, rfl⟩

theorem bit_2_mHL :
    Statement (.bit_2_mHL) := ⟨rfl, rfl⟩

theorem bit_2_A :
    Statement (.bit_2_A) := ⟨rfl, rfl⟩

theorem bit_3_B :
    Statement (.bit_3_B) := ⟨rfl, rfl⟩

theorem bit_3_C :
    Statement (.bit_3_C) := ⟨rfl, rfl⟩

theorem bit_3_D :
    Statement (.bit_3_D) := ⟨rfl, rfl⟩

theorem bit_3_E :
    Statement (.bit_3_E) := ⟨rfl, rfl⟩

theorem bit_3_H :
    Statement (.bit_3_H) := ⟨rfl, rfl⟩

theorem bit_3_L :
    Statement (.bit_3_L) := ⟨rfl, rfl⟩

theorem bit_3_mHL :
    Statement (.bit_3_mHL) := ⟨rfl, rfl⟩

theorem bit_3_A :
    Statement (.bit_3_A) := ⟨rfl, rfl⟩

theorem bit_4_B :
    Statement (.bit_4_B) := ⟨rfl, rfl⟩

theorem bit_4_C :
    Statement (.bit_4_C) := ⟨rfl, rfl⟩

theorem bit_4_D :
    Statement (.bit_4_D) := ⟨rfl, rfl⟩

theorem bit_4_E :
    Statement (.bit_4_E) := ⟨rfl, rfl⟩

theorem bit_4_H :
    Statement (.bit_4_H) := ⟨rfl, rfl⟩

theorem bit_4_L :
    Statement (.bit_4_L) := ⟨rfl, rfl⟩

theorem bit_4_mHL :
    Statement (.bit_4_mHL) := ⟨rfl, rfl⟩

theorem bit_4_A :
    Statement (.bit_4_A) := ⟨rfl, rfl⟩

theorem bit_5_B :
    Statement (.bit_5_B) := ⟨rfl, rfl⟩

theorem bit_5_C :
    Statement (.bit_5_C) := ⟨rfl, rfl⟩

theorem bit_5_D :
    Statement (.bit_5_D) := ⟨rfl, rfl⟩

theorem bit_5_E :
    Statement (.bit_5_E) := ⟨rfl, rfl⟩

theorem bit_5_H :
    Statement (.bit_5_H) := ⟨rfl, rfl⟩

theorem bit_5_L :
    Statement (.bit_5_L) := ⟨rfl, rfl⟩

theorem bit_5_mHL :
    Statement (.bit_5_mHL) := ⟨rfl, rfl⟩

theorem bit_5_A :
    Statement (.bit_5_A) := ⟨rfl, rfl⟩

theorem bit_6_B :
    Statement (.bit_6_B) := ⟨rfl, rfl⟩

theorem bit_6_C :
    Statement (.bit_6_C) := ⟨rfl, rfl⟩

theorem bit_6_D :
    Statement (.bit_6_D) := ⟨rfl, rfl⟩

theorem bit_6_E :
    Statement (.bit_6_E) := ⟨rfl, rfl⟩

theorem bit_6_H :
    Statement (.bit_6_H) := ⟨rfl, rfl⟩

theorem bit_6_L :
    Statement (.bit_6_L) := ⟨rfl, rfl⟩

theorem bit_6_mHL :
    Statement (.bit_6_mHL) := ⟨rfl, rfl⟩

theorem bit_6_A :
    Statement (.bit_6_A) := ⟨rfl, rfl⟩

theorem bit_7_B :
    Statement (.bit_7_B) := ⟨rfl, rfl⟩

theorem bit_7_C :
    Statement (.bit_7_C) := ⟨rfl, rfl⟩

theorem bit_7_D :
    Statement (.bit_7_D) := ⟨rfl, rfl⟩

theorem bit_7_E :
    Statement (.bit_7_E) := ⟨rfl, rfl⟩

theorem bit_7_H :
    Statement (.bit_7_H) := ⟨rfl, rfl⟩

theorem bit_7_L :
    Statement (.bit_7_L) := ⟨rfl, rfl⟩

theorem bit_7_mHL :
    Statement (.bit_7_mHL) := ⟨rfl, rfl⟩

theorem bit_7_A :
    Statement (.bit_7_A) := ⟨rfl, rfl⟩

theorem res_0_B :
    Statement (.res_0_B) := ⟨rfl, rfl⟩

theorem res_0_C :
    Statement (.res_0_C) := ⟨rfl, rfl⟩

theorem res_0_D :
    Statement (.res_0_D) := ⟨rfl, rfl⟩

theorem res_0_E :
    Statement (.res_0_E) := ⟨rfl, rfl⟩

theorem res_0_H :
    Statement (.res_0_H) := ⟨rfl, rfl⟩

theorem res_0_L :
    Statement (.res_0_L) := ⟨rfl, rfl⟩

theorem res_0_mHL :
    Statement (.res_0_mHL) := ⟨rfl, rfl⟩

theorem res_0_A :
    Statement (.res_0_A) := ⟨rfl, rfl⟩

theorem res_1_B :
    Statement (.res_1_B) := ⟨rfl, rfl⟩

theorem res_1_C :
    Statement (.res_1_C) := ⟨rfl, rfl⟩

theorem res_1_D :
    Statement (.res_1_D) := ⟨rfl, rfl⟩

theorem res_1_E :
    Statement (.res_1_E) := ⟨rfl, rfl⟩

theorem res_1_H :
    Statement (.res_1_H) := ⟨rfl, rfl⟩

theorem res_1_L :
    Statement (.res_1_L) := ⟨rfl, rfl⟩

theorem res_1_mHL :
    Statement (.res_1_mHL) := ⟨rfl, rfl⟩

theorem res_1_A :
    Statement (.res_1_A) := ⟨rfl, rfl⟩

theorem res_2_B :
    Statement (.res_2_B) := ⟨rfl, rfl⟩

theorem res_2_C :
    Statement (.res_2_C) := ⟨rfl, rfl⟩

theorem res_2_D :
    Statement (.res_2_D) := ⟨rfl, rfl⟩

theorem res_2_E :
    Statement (.res_2_E) := ⟨rfl, rfl⟩

theorem res_2_H :
    Statement (.res_2_H) := ⟨rfl, rfl⟩

theorem res_2_L :
    Statement (.res_2_L) := ⟨rfl, rfl⟩

theorem res_2_mHL :
    Statement (.res_2_mHL) := ⟨rfl, rfl⟩

theorem res_2_A :
    Statement (.res_2_A) := ⟨rfl, rfl⟩

theorem res_3_B :
    Statement (.res_3_B) := ⟨rfl, rfl⟩

theorem res_3_C :
    Statement (.res_3_C) := ⟨rfl, rfl⟩

theorem res_3_D :
    Statement (.res_3_D) := ⟨rfl, rfl⟩

theorem res_3_E :
    Statement (.res_3_E) := ⟨rfl, rfl⟩

theorem res_3_H :
    Statement (.res_3_H) := ⟨rfl, rfl⟩

theorem res_3_L :
    Statement (.res_3_L) := ⟨rfl, rfl⟩

theorem res_3_mHL :
    Statement (.res_3_mHL) := ⟨rfl, rfl⟩

theorem res_3_A :
    Statement (.res_3_A) := ⟨rfl, rfl⟩

theorem res_4_B :
    Statement (.res_4_B) := ⟨rfl, rfl⟩

theorem res_4_C :
    Statement (.res_4_C) := ⟨rfl, rfl⟩

theorem res_4_D :
    Statement (.res_4_D) := ⟨rfl, rfl⟩

theorem res_4_E :
    Statement (.res_4_E) := ⟨rfl, rfl⟩

theorem res_4_H :
    Statement (.res_4_H) := ⟨rfl, rfl⟩

theorem res_4_L :
    Statement (.res_4_L) := ⟨rfl, rfl⟩

theorem res_4_mHL :
    Statement (.res_4_mHL) := ⟨rfl, rfl⟩

theorem res_4_A :
    Statement (.res_4_A) := ⟨rfl, rfl⟩

theorem res_5_B :
    Statement (.res_5_B) := ⟨rfl, rfl⟩

theorem res_5_C :
    Statement (.res_5_C) := ⟨rfl, rfl⟩

theorem res_5_D :
    Statement (.res_5_D) := ⟨rfl, rfl⟩

theorem res_5_E :
    Statement (.res_5_E) := ⟨rfl, rfl⟩

theorem res_5_H :
    Statement (.res_5_H) := ⟨rfl, rfl⟩

theorem res_5_L :
    Statement (.res_5_L) := ⟨rfl, rfl⟩

theorem res_5_mHL :
    Statement (.res_5_mHL) := ⟨rfl, rfl⟩

theorem res_5_A :
    Statement (.res_5_A) := ⟨rfl, rfl⟩

theorem res_6_B :
    Statement (.res_6_B) := ⟨rfl, rfl⟩

theorem res_6_C :
    Statement (.res_6_C) := ⟨rfl, rfl⟩

theorem res_6_D :
    Statement (.res_6_D) := ⟨rfl, rfl⟩

theorem res_6_E :
    Statement (.res_6_E) := ⟨rfl, rfl⟩

theorem res_6_H :
    Statement (.res_6_H) := ⟨rfl, rfl⟩

theorem res_6_L :
    Statement (.res_6_L) := ⟨rfl, rfl⟩

theorem res_6_mHL :
    Statement (.res_6_mHL) := ⟨rfl, rfl⟩

theorem res_6_A :
    Statement (.res_6_A) := ⟨rfl, rfl⟩

theorem res_7_B :
    Statement (.res_7_B) := ⟨rfl, rfl⟩

theorem res_7_C :
    Statement (.res_7_C) := ⟨rfl, rfl⟩

theorem res_7_D :
    Statement (.res_7_D) := ⟨rfl, rfl⟩

theorem res_7_E :
    Statement (.res_7_E) := ⟨rfl, rfl⟩

theorem res_7_H :
    Statement (.res_7_H) := ⟨rfl, rfl⟩

theorem res_7_L :
    Statement (.res_7_L) := ⟨rfl, rfl⟩

theorem res_7_mHL :
    Statement (.res_7_mHL) := ⟨rfl, rfl⟩

theorem res_7_A :
    Statement (.res_7_A) := ⟨rfl, rfl⟩

theorem set_0_B :
    Statement (.set_0_B) := ⟨rfl, rfl⟩

theorem set_0_C :
    Statement (.set_0_C) := ⟨rfl, rfl⟩

theorem set_0_D :
    Statement (.set_0_D) := ⟨rfl, rfl⟩

theorem set_0_E :
    Statement (.set_0_E) := ⟨rfl, rfl⟩

theorem set_0_H :
    Statement (.set_0_H) := ⟨rfl, rfl⟩

theorem set_0_L :
    Statement (.set_0_L) := ⟨rfl, rfl⟩

theorem set_0_mHL :
    Statement (.set_0_mHL) := ⟨rfl, rfl⟩

theorem set_0_A :
    Statement (.set_0_A) := ⟨rfl, rfl⟩

theorem set_1_B :
    Statement (.set_1_B) := ⟨rfl, rfl⟩

theorem set_1_C :
    Statement (.set_1_C) := ⟨rfl, rfl⟩

theorem set_1_D :
    Statement (.set_1_D) := ⟨rfl, rfl⟩

theorem set_1_E :
    Statement (.set_1_E) := ⟨rfl, rfl⟩

theorem set_1_H :
    Statement (.set_1_H) := ⟨rfl, rfl⟩

theorem set_1_L :
    Statement (.set_1_L) := ⟨rfl, rfl⟩

theorem set_1_mHL :
    Statement (.set_1_mHL) := ⟨rfl, rfl⟩

theorem set_1_A :
    Statement (.set_1_A) := ⟨rfl, rfl⟩

theorem set_2_B :
    Statement (.set_2_B) := ⟨rfl, rfl⟩

theorem set_2_C :
    Statement (.set_2_C) := ⟨rfl, rfl⟩

theorem set_2_D :
    Statement (.set_2_D) := ⟨rfl, rfl⟩

theorem set_2_E :
    Statement (.set_2_E) := ⟨rfl, rfl⟩

theorem set_2_H :
    Statement (.set_2_H) := ⟨rfl, rfl⟩

theorem set_2_L :
    Statement (.set_2_L) := ⟨rfl, rfl⟩

theorem set_2_mHL :
    Statement (.set_2_mHL) := ⟨rfl, rfl⟩

theorem set_2_A :
    Statement (.set_2_A) := ⟨rfl, rfl⟩

theorem set_3_B :
    Statement (.set_3_B) := ⟨rfl, rfl⟩

theorem set_3_C :
    Statement (.set_3_C) := ⟨rfl, rfl⟩

theorem set_3_D :
    Statement (.set_3_D) := ⟨rfl, rfl⟩

theorem set_3_E :
    Statement (.set_3_E) := ⟨rfl, rfl⟩

theorem set_3_H :
    Statement (.set_3_H) := ⟨rfl, rfl⟩

theorem set_3_L :
    Statement (.set_3_L) := ⟨rfl, rfl⟩

theorem set_3_mHL :
    Statement (.set_3_mHL) := ⟨rfl, rfl⟩

theorem set_3_A :
    Statement (.set_3_A) := ⟨rfl, rfl⟩

theorem set_4_B :
    Statement (.set_4_B) := ⟨rfl, rfl⟩

theorem set_4_C :
    Statement (.set_4_C) := ⟨rfl, rfl⟩

theorem set_4_D :
    Statement (.set_4_D) := ⟨rfl, rfl⟩

theorem set_4_E :
    Statement (.set_4_E) := ⟨rfl, rfl⟩

theorem set_4_H :
    Statement (.set_4_H) := ⟨rfl, rfl⟩

theorem set_4_L :
    Statement (.set_4_L) := ⟨rfl, rfl⟩

theorem set_4_mHL :
    Statement (.set_4_mHL) := ⟨rfl, rfl⟩

theorem set_4_A :
    Statement (.set_4_A) := ⟨rfl, rfl⟩

theorem set_5_B :
    Statement (.set_5_B) := ⟨rfl, rfl⟩

theorem set_5_C :
    Statement (.set_5_C) := ⟨rfl, rfl⟩

theorem set_5_D :
    Statement (.set_5_D) := ⟨rfl, rfl⟩

theorem set_5_E :
    Statement (.set_5_E) := ⟨rfl, rfl⟩

theorem set_5_H :
    Statement (.set_5_H) := ⟨rfl, rfl⟩

theorem set_5_L :
    Statement (.set_5_L) := ⟨rfl, rfl⟩

theorem set_5_mHL :
    Statement (.set_5_mHL) := ⟨rfl, rfl⟩

theorem set_5_A :
    Statement (.set_5_A) := ⟨rfl, rfl⟩

theorem set_6_B :
    Statement (.set_6_B) := ⟨rfl, rfl⟩

theorem set_6_C :
    Statement (.set_6_C) := ⟨rfl, rfl⟩

theorem set_6_D :
    Statement (.set_6_D) := ⟨rfl, rfl⟩

theorem set_6_E :
    Statement (.set_6_E) := ⟨rfl, rfl⟩

theorem set_6_H :
    Statement (.set_6_H) := ⟨rfl, rfl⟩

theorem set_6_L :
    Statement (.set_6_L) := ⟨rfl, rfl⟩

theorem set_6_mHL :
    Statement (.set_6_mHL) := ⟨rfl, rfl⟩

theorem set_6_A :
    Statement (.set_6_A) := ⟨rfl, rfl⟩

theorem set_7_B :
    Statement (.set_7_B) := ⟨rfl, rfl⟩

theorem set_7_C :
    Statement (.set_7_C) := ⟨rfl, rfl⟩

theorem set_7_D :
    Statement (.set_7_D) := ⟨rfl, rfl⟩

theorem set_7_E :
    Statement (.set_7_E) := ⟨rfl, rfl⟩

theorem set_7_H :
    Statement (.set_7_H) := ⟨rfl, rfl⟩

theorem set_7_L :
    Statement (.set_7_L) := ⟨rfl, rfl⟩

theorem set_7_mHL :
    Statement (.set_7_mHL) := ⟨rfl, rfl⟩

theorem set_7_A :
    Statement (.set_7_A) := ⟨rfl, rfl⟩

theorem in_B_pC :
    Statement (.in_B_pC) := ⟨rfl, rfl⟩

theorem out_pC_B :
    Statement (.out_pC_B) := ⟨rfl, rfl⟩

theorem sbc_HL_BC :
    Statement (.sbc_HL_BC) := ⟨rfl, rfl⟩

theorem neg :
    Statement (.neg) := ⟨rfl, rfl⟩

theorem retn :
    Statement (.retn) := ⟨rfl, rfl⟩

theorem im_0 :
    Statement (.im_0) := ⟨rfl, rfl⟩

theorem ld_I_A :
    Statement (.ld_I_A) := ⟨rfl, rfl⟩

theorem in_C_pC :
    Statement (.in_C_pC) := ⟨rfl, rfl⟩

theorem out_pC_C :
    Statement (.out_pC_C) := ⟨rfl, rfl⟩

theorem adc_HL_BC :
    Statement (.adc_HL_BC) := ⟨rfl, rfl⟩

theorem reti :
    Statement (.reti) := ⟨rfl, rfl⟩

theorem ld_R_A :
    Statement (.ld_R_A) := ⟨rfl, rfl⟩

theorem in_D_pC :
    Statement (.in_D_pC) := ⟨rfl, rfl⟩

theorem out_pC_D :
    Statement (.out_pC_D) := ⟨rfl, rfl⟩

theorem sbc_HL_DE :
    Statement (.sbc_HL_DE) := ⟨rfl, rfl⟩

theorem im_1 :
    Statement (.im_1) := ⟨rfl, rfl⟩

theorem ld_A_I :
    Statement (.ld_A_I) := ⟨rfl, rfl⟩

theorem in_E_pC :
    Statement (.in_E_pC) := ⟨rfl, rfl⟩

theorem out_pC_E :
    Statement (.out_pC_E) := ⟨rfl, rfl⟩

theorem adc_HL_DE :
    Statement (.adc_HL_DE) := ⟨rfl, rfl⟩

theorem im_2 :
    Statement (.im_2) := ⟨rfl, rfl⟩

theorem ld_A_R :
    Statement (.ld_A_R) := ⟨rfl, rfl⟩

theorem in_H_pC :
    Statement (.in_H_pC) := ⟨rfl, rfl⟩

theorem out_pC_H :
    Statement (.out_pC_H) := ⟨rfl, rfl⟩

theorem sbc_HL_HL :
    Statement (.sbc_HL_HL) := ⟨rfl, rfl⟩

theorem rrd :
    Statement (.rrd) := ⟨rfl, rfl⟩

theorem in_L_pC :
    Statement (.in_L_pC) := ⟨rfl, rfl⟩

theorem out_pC_L :
    Statement (.out_pC_L) := ⟨rfl, rfl⟩

theorem adc_HL_HL :
    Statement (.adc_HL_HL) := ⟨rfl, rfl⟩

theorem rld :
    Statement (.rld) := ⟨rfl, rfl⟩

theorem sbc_HL_SP :
    Statement (.sbc_HL_SP) := ⟨rfl, rfl⟩

theorem in_A_pC :
    Statement (.in_A_pC) := ⟨rfl, rfl⟩

theorem out_pC_A :
    Statement (.out_pC_A) := ⟨rfl, rfl⟩

theorem adc_HL_SP :
    Statement (.adc_HL_SP) := ⟨rfl, rfl⟩

theorem ldi :
    Statement (.ldi) := ⟨rfl, rfl⟩

theorem cpi :
    Statement (.cpi) := ⟨rfl, rfl⟩

theorem ini :
    Statement (.ini) := ⟨rfl, rfl⟩

theorem outi :
    Statement (.outi) := ⟨rfl, rfl⟩

theorem ldd :
    Statement (.ldd) := ⟨rfl, rfl⟩

theorem cpd :
    Statement (.cpd) := ⟨rfl, rfl⟩

theorem ind :
    Statement (.ind) := ⟨rfl, rfl⟩

theorem outd :
    Statement (.outd) := ⟨rfl, rfl⟩

theorem ldir :
    Statement (.ldir) := ⟨rfl, rfl⟩

theorem cpir :
    Statement (.cpir) := ⟨rfl, rfl⟩

theorem inir :
    Statement (.inir) := ⟨rfl, rfl⟩

theorem otir :
    Statement (.otir) := ⟨rfl, rfl⟩

theorem lddr :
    Statement (.lddr) := ⟨rfl, rfl⟩

theorem cpdr :
    Statement (.cpdr) := ⟨rfl, rfl⟩

theorem indr :
    Statement (.indr) := ⟨rfl, rfl⟩

theorem otdr :
    Statement (.otdr) := ⟨rfl, rfl⟩

theorem add_IX_BC :
    Statement (.add_IX_BC) := ⟨rfl, rfl⟩

theorem add_IX_DE :
    Statement (.add_IX_DE) := ⟨rfl, rfl⟩

theorem inc_IX :
    Statement (.inc_IX) := ⟨rfl, rfl⟩

theorem inc_IXh :
    Statement (.inc_IXh) := ⟨rfl, rfl⟩

theorem dec_IXh :
    Statement (.dec_IXh) := ⟨rfl, rfl⟩

theorem add_IX_IX :
    Statement (.add_IX_IX) := ⟨rfl, rfl⟩

theorem dec_IX :
    Statement (.dec_IX) := ⟨rfl, rfl⟩

theorem inc_IXl :
    Statement (.inc_IXl) := ⟨rfl, rfl⟩

theorem dec_IXl :
    Statement (.dec_IXl) := ⟨rfl, rfl⟩

theorem add_IX_SP :
    Statement (.add_IX_SP) := ⟨rfl, rfl⟩

theorem ld_B_IXh :
    Statement (.ld_B_IXh) := ⟨rfl, rfl⟩

theorem ld_B_IXl :
    Statement (.ld_B_IXl) := ⟨rfl, rfl⟩

theorem ld_C_IXh :
    Statement (.ld_C_IXh) := ⟨rfl, rfl⟩

theorem ld_C_IXl :
    Statement (.ld_C_IXl) := ⟨rfl, rfl⟩

theorem ld_D_IXh :
    Statement (.ld_D_IXh) := ⟨rfl, rfl⟩

theorem ld_D_IXl :
    Statement (.ld_D_IXl) := ⟨rfl, rfl⟩

theorem ld_E_IXh :
    Statement (.ld_E_IXh) := ⟨rfl, rfl⟩

theorem ld_E_IXl :
    Statement (.ld_E_IXl) := ⟨rfl, rfl⟩

theorem ld_IXh_B :
    Statement (.ld_IXh_B) := ⟨rfl, rfl⟩

theorem ld_IXh_C :
    Statement (.ld_IXh_C) := ⟨rfl, rfl⟩

theorem ld_IXh_D :
    Statement (.ld_IXh_D) := ⟨rfl, rfl⟩

theorem ld_IXh_E :
    Statement (.ld_IXh_E) := ⟨rfl, rfl⟩

theorem ld_IXh_IXh :
    Statement (.ld_IXh_IXh) := ⟨rfl, rfl⟩

theorem ld_IXh_IXl :
    Statement (.ld_IXh_IXl) := ⟨rfl, rfl⟩

theorem ld_IXh_A :
    Statement (.ld_IXh_A) := ⟨rfl, rfl⟩

theorem ld_IXl_B :
    Statement (.ld_IXl_B) := ⟨rfl, rfl⟩

theorem ld_IXl_C :
    Statement (.ld_IXl_C) := ⟨rfl, rfl⟩

theorem ld_IXl_D :
    Statement (.ld_IXl_D) := ⟨rfl, rfl⟩

theorem ld_IXl_E :
    Statement (.ld_IXl_E) := ⟨rfl, rfl⟩

theorem ld_IXl_IXh :
    Statement (.ld_IXl_IXh) := ⟨rfl, rfl⟩

theorem ld_IXl_IXl :
    Statement (.ld_IXl_IXl) := ⟨rfl, rfl⟩

theorem ld_IXl_A :
    Statement (.ld_IXl_A) := ⟨rfl, rfl⟩

theorem ld_A_IXh :
    Statement (.ld_A_IXh) := ⟨rfl, rfl⟩

theorem ld_A_IXl :
    Statement (.ld_A_IXl) := ⟨rfl, rfl⟩

theorem add_A_IXh :
    Statement (.add_A_IXh) := ⟨rfl, rfl⟩

theorem add_A_IXl :
    Statement (.add_A_IXl) := ⟨rfl, rfl⟩

theorem adc_A_IXh :
    Statement (.adc_A_IXh) := ⟨rfl, rfl⟩

theorem adc_A_IXl :
    Statement (.adc_A_IXl) := ⟨rfl, rfl⟩

theorem sub_IXh :
    Statement (.sub_IXh) := ⟨rfl, rfl⟩

theorem sub_IXl :
    Statement (.sub_IXl) := ⟨rfl, rfl⟩

theorem sbc_A_IXh :
    Statement (.sbc_A_IXh) := ⟨rfl, rfl⟩

theorem sbc_A_IXl :
    Statement (.sbc_A_IXl) := ⟨rfl, rfl⟩

theorem and_IXh :
    Statement (.and_IXh) := ⟨rfl, rfl⟩

theorem and_IXl :
    Statement (.and_IXl) := ⟨rfl, rfl⟩

theorem xor_IXh :
    Statement (.xor_IXh) := ⟨rfl, rfl⟩

theorem xor_IXl :
    Statement (.xor_IXl) := ⟨rfl, rfl⟩

theorem or_IXh :
    Statement (.or_IXh) := ⟨rfl, rfl⟩

theorem or_IXl :
    Statement (.or_IXl) := ⟨rfl, rfl⟩

theorem cp_IXh :
    Statement (.cp_IXh) := ⟨rfl, rfl⟩

theorem cp_IXl :
    Statement (.cp_IXl) := ⟨rfl, rfl⟩

theorem pop_IX :
    Statement (.pop_IX) := ⟨rfl, rfl⟩

theorem ex_mSP_IX :
    Statement (.ex_mSP_IX) := ⟨rfl, rfl⟩

theorem push_IX :
    Statement (.push_IX) := ⟨rfl, rfl⟩

theorem jp_mIX :
    Statement (.jp_mIX) := ⟨rfl, rfl⟩

theorem ld_SP_IX :
    Statement (.ld_SP_IX) := ⟨rfl, rfl⟩

theorem add_IY_BC :
    Statement (.add_IY_BC) := ⟨rfl, rfl⟩

theorem add_IY_DE :
    Statement (.add_IY_DE) := ⟨rfl, rfl⟩

theorem inc_IY :
    Statement (.inc_IY) := ⟨rfl, rfl⟩

theorem inc_IYh :
    Statement (.inc_IYh) := ⟨rfl, rfl⟩

theorem dec_IYh :
    Statement (.dec_IYh) := ⟨rfl, rfl⟩

theorem add_IY_IY :
    Statement (.add_IY_IY) := ⟨rfl, rfl⟩

theorem dec_IY :
    Statement (.dec_IY) := ⟨rfl, rfl⟩

theorem inc_IYl :
    Statement (.inc_IYl) := ⟨rfl, rfl⟩

theorem dec_IYl :
    Statement (.dec_IYl) := ⟨rfl, rfl⟩

theorem add_IY_SP :
    Statement (.add_IY_SP) := ⟨rfl, rfl⟩

theorem ld_B_IYh :
    Statement (.ld_B_IYh) := ⟨rfl, rfl⟩

theorem ld_B_IYl :
    Statement (.ld_B_IYl) := ⟨rfl, rfl⟩

theorem ld_C_IYh :
    Statement (.ld_C_IYh) := ⟨rfl, rfl⟩

theorem ld_C_IYl :
    Statement (.ld_C_IYl) := ⟨rfl, rfl⟩

theorem ld_D_IYh :
    Statement (.ld_D_IYh) := ⟨rfl, rfl⟩

theorem ld_D_IYl :
    Statement (.ld_D_IYl) := ⟨rfl, rfl⟩

theorem ld_E_IYh :
    Statement (.ld_E_IYh) := ⟨rfl, rfl⟩

theorem ld_E_IYl :
    Statement (.ld_E_IYl) := ⟨rfl, rfl⟩

theorem ld_IYh_B :
    Statement (.ld_IYh_B) := ⟨rfl, rfl⟩

theorem ld_IYh_C :
    Statement (.ld_IYh_C) := ⟨rfl, rfl⟩

theorem ld_IYh_D :
    Statement (.ld_IYh_D) := ⟨rfl, rfl⟩

theorem ld_IYh_E :
    Statement (.ld_IYh_E) := ⟨rfl, rfl⟩

theorem ld_IYh_IYh :
    Statement (.ld_IYh_IYh) := ⟨rfl, rfl⟩

theorem ld_IYh_IYl :
    Statement (.ld_IYh_IYl) := ⟨rfl, rfl⟩

theorem ld_IYh_A :
    Statement (.ld_IYh_A) := ⟨rfl, rfl⟩

theorem ld_IYl_B :
    Statement (.ld_IYl_B) := ⟨rfl, rfl⟩

theorem ld_IYl_C :
    Statement (.ld_IYl_C) := ⟨rfl, rfl⟩

theorem ld_IYl_D :
    Statement (.ld_IYl_D) := ⟨rfl, rfl⟩

theorem ld_IYl_E :
    Statement (.ld_IYl_E) := ⟨rfl, rfl⟩

theorem ld_IYl_IYh :
    Statement (.ld_IYl_IYh) := ⟨rfl, rfl⟩

theorem ld_IYl_IYl :
    Statement (.ld_IYl_IYl) := ⟨rfl, rfl⟩

theorem ld_IYl_A :
    Statement (.ld_IYl_A) := ⟨rfl, rfl⟩

theorem ld_A_IYh :
    Statement (.ld_A_IYh) := ⟨rfl, rfl⟩

theorem ld_A_IYl :
    Statement (.ld_A_IYl) := ⟨rfl, rfl⟩

theorem add_A_IYh :
    Statement (.add_A_IYh) := ⟨rfl, rfl⟩

theorem add_A_IYl :
    Statement (.add_A_IYl) := ⟨rfl, rfl⟩

theorem adc_A_IYh :
    Statement (.adc_A_IYh) := ⟨rfl, rfl⟩

theorem adc_A_IYl :
    Statement (.adc_A_IYl) := ⟨rfl, rfl⟩

theorem sub_IYh :
    Statement (.sub_IYh) := ⟨rfl, rfl⟩

theorem sub_IYl :
    Statement (.sub_IYl) := ⟨rfl, rfl⟩

theorem sbc_A_IYh :
    Statement (.sbc_A_IYh) := ⟨rfl, rfl⟩

theorem sbc_A_IYl :
    Statement (.sbc_A_IYl) := ⟨rfl, rfl⟩

theorem and_IYh :
    Statement (.and_IYh) := ⟨rfl, rfl⟩

theorem and_IYl :
    Statement (.and_IYl) := ⟨rfl, rfl⟩

theorem xor_IYh :
    Statement (.xor_IYh) := ⟨rfl, rfl⟩

theorem xor_IYl :
    Statement (.xor_IYl) := ⟨rfl, rfl⟩

theorem or_IYh :
    Statement (.or_IYh) := ⟨rfl, rfl⟩

theorem or_IYl :
    Statement (.or_IYl) := ⟨rfl, rfl⟩

theorem cp_IYh :
    Statement (.cp_IYh) := ⟨rfl, rfl⟩

theorem cp_IYl :
    Statement (.cp_IYl) := ⟨rfl, rfl⟩

theorem pop_IY :
    Statement (.pop_IY) := ⟨rfl, rfl⟩

theorem ex_mSP_IY :
    Statement (.ex_mSP_IY) := ⟨rfl, rfl⟩

theorem push_IY :
    Statement (.push_IY) := ⟨rfl, rfl⟩

theorem jp_mIY :
    Statement (.jp_mIY) := ⟨rfl, rfl⟩

theorem ld_SP_IY :
    Statement (.ld_SP_IY) := ⟨rfl, rfl⟩

end Sys2Proof.Laws.EncodingAdmitted
end

