-- ==== Sys2Proof/Tests/Slice0.lean ====
section
/-! SUPPORT. Tests. The expected results are the spec's own: the encodings of spec/opcode_table.json and the vectors
of 95_test_vectors.md, whose start state S0 is `State.reset`. One witness per obligation that has hypotheses. -/

namespace Sys2Proof.Tests

set_option Elab.async false

open Sys2Proof Sys2Proof.Machine

/-! ### Helpers -/

/-- The state with an instruction's bytes at 0x0100 and PC there (95_test_vectors.md section 0). -/
def at0100 (bytes : List Byte) (s : State) : State :=
  { s with pc := 0x0100, mem := s.mem.writeBytes 0x0100 bytes }

/-- The outcome is a next state that passes the check. -/
def nextWith (p : State → Bool) : Out → Bool
  | .next t => p t
  | .fault _ => false
  | .refused _ => false

/-- The outcome is a fault whose core passes the check. -/
def faultWith (p : State → Bool) : Out → Bool
  | .next _ => false
  | .fault (.unknownOpcode c) => p c
  | .fault (.unsupportedInterruptMode c) => p c
  | .fault (.adapterError c) => p c
  | .refused _ => false

/-- One step over the bytes at 0x0100. -/
def after1 (bytes : List Byte) (s : State) (p : State → Bool) : Bool := nextWith p (step (at0100 bytes s))

/-- The same where the step faults. -/
def faults1 (bytes : List Byte) (s : State) (p : State → Bool) : Bool := faultWith p (step (at0100 bytes s))

/-- A flag byte as flags. -/
def flags (b : Byte) : Flags := Flags.ofByte b

theorem exists_next {o : Out} (h : nextWith (fun _ => true) o = true) : ∃ t, o = .next t := by
  cases o with
  | next t => exact ⟨t, rfl⟩
  | fault r => cases r <;> cases h
  | refused r => cases h

theorem exists_fault {o : Out} (h : faultWith (fun _ => true) o = true) : ∃ r, o = .fault r := by
  cases o with
  | next t => cases h
  | fault r => exact ⟨r, rfl⟩
  | refused r => cases h

/-! ### The checks on encodings (WellFormed): each refuses an ill-formed term -/

theorem test_wellFormed_cb : admitted [0xCB, 0x30] = false ∧ admitted [0xCB, 0x37] = false ∧
    admitted [0xCB, 0x2F] = true ∧ admitted [0xCB, 0x38] = true ∧ admitted [0xCB] = false := by decide

theorem test_wellFormed_ed : admitted [0xED, 0x77] = false ∧ admitted [0xED, 0x70] = false ∧
    admitted [0xED, 0x00] = false ∧ admitted [0xED, 0xA4] = false ∧ admitted [0xED, 0xBB] = true ∧
    admitted [0xED] = false := by decide

theorem test_wellFormed_index : admitted [0xDD, 0xDD] = false ∧ admitted [0xDD, 0xFD] = false ∧
    admitted [0xFD, 0xED] = false ∧ admitted [0xDD, 0xEB] = false ∧ admitted [0xFD, 0xD9] = false ∧
    admitted [0xFD, 0x00] = true ∧ admitted [0xDD] = false := by decide

theorem test_wellFormed_indexedCB : admitted [0xDD, 0xCB, 0x05, 0x00] = false ∧
    admitted [0xDD, 0xCB, 0x05, 0x36] = false ∧ admitted [0xFD, 0xCB, 0x05, 0x3E] = true ∧
    admitted [0xFD, 0xCB, 0x05] = false := by decide

theorem test_wellFormed_empty : admitted [] = false := by decide

/-! ### Decoding: every row of spec/opcode_table.json that is an instruction's own, in words of the table's numbering
(first byte most significant), with d, n and e = 85h and nn = 1234h (stored 34 12) -/

/-- Every word of the list decodes to its instruction. -/
def decodes (nbits : Nat) (rows : List (Nat × Instr)) : Bool :=
  rows.all fun row => decodeTableWord nbits row.1 == some row.2

theorem test_decode_base_1_bytes_part_1 : decodes 8
    [(0x00, .nop), (0x02, .ld_mBC_A), (0x03, .inc_BC), (0x04, .inc_B), (0x05, .dec_B), (0x07, .rlca),
    (0x08, .ex_AF_AFs), (0x09, .add_HL_BC), (0x0A, .ld_A_mBC), (0x0B, .dec_BC), (0x0C, .inc_C), (0x0D, .dec_C),
    (0x0F, .rrca), (0x12, .ld_mDE_A), (0x13, .inc_DE), (0x14, .inc_D), (0x15, .dec_D), (0x17, .rla),
    (0x19, .add_HL_DE), (0x1A, .ld_A_mDE), (0x1B, .dec_DE), (0x1C, .inc_E), (0x1D, .dec_E), (0x1F, .rra),
    (0x23, .inc_HL), (0x24, .inc_H), (0x25, .dec_H), (0x27, .daa), (0x29, .add_HL_HL), (0x2B, .dec_HL),
    (0x2C, .inc_L), (0x2D, .dec_L), (0x2F, .cpl), (0x33, .inc_SP), (0x34, .inc_mHL), (0x35, .dec_mHL), (0x37, .scf),
    (0x39, .add_HL_SP), (0x3B, .dec_SP), (0x3C, .inc_A), (0x3D, .dec_A), (0x3F, .ccf), (0x40, .ld_B_B),
    (0x41, .ld_B_C), (0x42, .ld_B_D), (0x43, .ld_B_E), (0x44, .ld_B_H), (0x45, .ld_B_L), (0x46, .ld_B_mHL),
    (0x47, .ld_B_A), (0x48, .ld_C_B), (0x49, .ld_C_C), (0x4A, .ld_C_D), (0x4B, .ld_C_E), (0x4C, .ld_C_H),
    (0x4D, .ld_C_L), (0x4E, .ld_C_mHL), (0x4F, .ld_C_A), (0x50, .ld_D_B), (0x51, .ld_D_C), (0x52, .ld_D_D),
    (0x53, .ld_D_E), (0x54, .ld_D_H), (0x55, .ld_D_L)] = true := by
  decide +kernel

theorem test_decode_base_1_bytes_part_2 : decodes 8
    [(0x56, .ld_D_mHL), (0x57, .ld_D_A), (0x58, .ld_E_B), (0x59, .ld_E_C), (0x5A, .ld_E_D), (0x5B, .ld_E_E),
    (0x5C, .ld_E_H), (0x5D, .ld_E_L), (0x5E, .ld_E_mHL), (0x5F, .ld_E_A), (0x60, .ld_H_B), (0x61, .ld_H_C),
    (0x62, .ld_H_D), (0x63, .ld_H_E), (0x64, .ld_H_H), (0x65, .ld_H_L), (0x66, .ld_H_mHL), (0x67, .ld_H_A),
    (0x68, .ld_L_B), (0x69, .ld_L_C), (0x6A, .ld_L_D), (0x6B, .ld_L_E), (0x6C, .ld_L_H), (0x6D, .ld_L_L),
    (0x6E, .ld_L_mHL), (0x6F, .ld_L_A), (0x70, .ld_mHL_B), (0x71, .ld_mHL_C), (0x72, .ld_mHL_D), (0x73, .ld_mHL_E),
    (0x74, .ld_mHL_H), (0x75, .ld_mHL_L), (0x76, .halt), (0x77, .ld_mHL_A), (0x78, .ld_A_B), (0x79, .ld_A_C),
    (0x7A, .ld_A_D), (0x7B, .ld_A_E), (0x7C, .ld_A_H), (0x7D, .ld_A_L), (0x7E, .ld_A_mHL), (0x7F, .ld_A_A),
    (0x80, .add_A_B), (0x81, .add_A_C), (0x82, .add_A_D), (0x83, .add_A_E), (0x84, .add_A_H), (0x85, .add_A_L),
    (0x86, .add_A_mHL), (0x87, .add_A_A), (0x88, .adc_A_B), (0x89, .adc_A_C), (0x8A, .adc_A_D), (0x8B, .adc_A_E),
    (0x8C, .adc_A_H), (0x8D, .adc_A_L), (0x8E, .adc_A_mHL), (0x8F, .adc_A_A), (0x90, .sub_B), (0x91, .sub_C),
    (0x92, .sub_D), (0x93, .sub_E), (0x94, .sub_H), (0x95, .sub_L)] = true := by
  decide +kernel

theorem test_decode_base_1_bytes_part_3 : decodes 8
    [(0x96, .sub_mHL), (0x97, .sub_A), (0x98, .sbc_A_B), (0x99, .sbc_A_C), (0x9A, .sbc_A_D), (0x9B, .sbc_A_E),
    (0x9C, .sbc_A_H), (0x9D, .sbc_A_L), (0x9E, .sbc_A_mHL), (0x9F, .sbc_A_A), (0xA0, .and_B), (0xA1, .and_C),
    (0xA2, .and_D), (0xA3, .and_E), (0xA4, .and_H), (0xA5, .and_L), (0xA6, .and_mHL), (0xA7, .and_A),
    (0xA8, .xor_B), (0xA9, .xor_C), (0xAA, .xor_D), (0xAB, .xor_E), (0xAC, .xor_H), (0xAD, .xor_L),
    (0xAE, .xor_mHL), (0xAF, .xor_A), (0xB0, .or_B), (0xB1, .or_C), (0xB2, .or_D), (0xB3, .or_E), (0xB4, .or_H),
    (0xB5, .or_L), (0xB6, .or_mHL), (0xB7, .or_A), (0xB8, .cp_B), (0xB9, .cp_C), (0xBA, .cp_D), (0xBB, .cp_E),
    (0xBC, .cp_H), (0xBD, .cp_L), (0xBE, .cp_mHL), (0xBF, .cp_A), (0xC0, .ret_NZ), (0xC1, .pop_BC),
    (0xC5, .push_BC), (0xC7, .rst_00H), (0xC8, .ret_Z), (0xC9, .ret), (0xCF, .rst_08H), (0xD0, .ret_NC),
    (0xD1, .pop_DE), (0xD5, .push_DE), (0xD7, .rst_10H), (0xD8, .ret_C), (0xD9, .exx), (0xDF, .rst_18H),
    (0xE0, .ret_PO), (0xE1, .pop_HL), (0xE3, .ex_mSP_HL), (0xE5, .push_HL), (0xE7, .rst_20H), (0xE8, .ret_PE),
    (0xE9, .jp_mHL), (0xEB, .ex_DE_HL)] = true := by
  decide +kernel

theorem test_decode_base_1_bytes_part_4 : decodes 8
    [(0xEF, .rst_28H), (0xF0, .ret_P), (0xF1, .pop_AF), (0xF3, .di), (0xF5, .push_AF), (0xF7, .rst_30H),
    (0xF8, .ret_M), (0xF9, .ld_SP_HL), (0xFB, .ei), (0xFF, .rst_38H)] = true := by
  decide +kernel

theorem test_decode_base_3_bytes : decodes 24
    [(0x013412, .ld_BC_nn 0x1234), (0x113412, .ld_DE_nn 0x1234), (0x213412, .ld_HL_nn 0x1234),
    (0x223412, .ld_mnn_HL 0x1234), (0x2A3412, .ld_HL_mnn 0x1234), (0x313412, .ld_SP_nn 0x1234),
    (0x323412, .ld_mnn_A 0x1234), (0x3A3412, .ld_A_mnn 0x1234), (0xC23412, .jp_NZ_nn 0x1234),
    (0xC33412, .jp_nn 0x1234), (0xC43412, .call_NZ_nn 0x1234), (0xCA3412, .jp_Z_nn 0x1234),
    (0xCC3412, .call_Z_nn 0x1234), (0xCD3412, .call_nn 0x1234), (0xD23412, .jp_NC_nn 0x1234),
    (0xD43412, .call_NC_nn 0x1234), (0xDA3412, .jp_C_nn 0x1234), (0xDC3412, .call_C_nn 0x1234),
    (0xE23412, .jp_PO_nn 0x1234), (0xE43412, .call_PO_nn 0x1234), (0xEA3412, .jp_PE_nn 0x1234),
    (0xEC3412, .call_PE_nn 0x1234), (0xF23412, .jp_P_nn 0x1234), (0xF43412, .call_P_nn 0x1234),
    (0xFA3412, .jp_M_nn 0x1234), (0xFC3412, .call_M_nn 0x1234)] = true := by
  decide +kernel

theorem test_decode_base_2_bytes : decodes 16
    [(0x0685, .ld_B_n 0x85), (0x0E85, .ld_C_n 0x85), (0x1085, .djnz_e 0x85), (0x1685, .ld_D_n 0x85),
    (0x1885, .jr_e 0x85), (0x1E85, .ld_E_n 0x85), (0x2085, .jr_NZ_e 0x85), (0x2685, .ld_H_n 0x85),
    (0x2885, .jr_Z_e 0x85), (0x2E85, .ld_L_n 0x85), (0x3085, .jr_NC_e 0x85), (0x3685, .ld_mHL_n 0x85),
    (0x3885, .jr_C_e 0x85), (0x3E85, .ld_A_n 0x85), (0xC685, .add_A_n 0x85), (0xCE85, .adc_A_n 0x85),
    (0xD385, .out_pn_A 0x85), (0xD685, .sub_n 0x85), (0xDB85, .in_A_pn 0x85), (0xDE85, .sbc_A_n 0x85),
    (0xE685, .and_n 0x85), (0xEE85, .xor_n 0x85), (0xF685, .or_n 0x85), (0xFE85, .cp_n 0x85)] = true := by
  decide +kernel

theorem test_decode_cb_2_bytes_part_1 : decodes 16
    [(0xCB00, .rlc_B), (0xCB01, .rlc_C), (0xCB02, .rlc_D), (0xCB03, .rlc_E), (0xCB04, .rlc_H), (0xCB05, .rlc_L),
    (0xCB06, .rlc_mHL), (0xCB07, .rlc_A), (0xCB08, .rrc_B), (0xCB09, .rrc_C), (0xCB0A, .rrc_D), (0xCB0B, .rrc_E),
    (0xCB0C, .rrc_H), (0xCB0D, .rrc_L), (0xCB0E, .rrc_mHL), (0xCB0F, .rrc_A), (0xCB10, .rl_B), (0xCB11, .rl_C),
    (0xCB12, .rl_D), (0xCB13, .rl_E), (0xCB14, .rl_H), (0xCB15, .rl_L), (0xCB16, .rl_mHL), (0xCB17, .rl_A),
    (0xCB18, .rr_B), (0xCB19, .rr_C), (0xCB1A, .rr_D), (0xCB1B, .rr_E), (0xCB1C, .rr_H), (0xCB1D, .rr_L),
    (0xCB1E, .rr_mHL), (0xCB1F, .rr_A), (0xCB20, .sla_B), (0xCB21, .sla_C), (0xCB22, .sla_D), (0xCB23, .sla_E),
    (0xCB24, .sla_H), (0xCB25, .sla_L), (0xCB26, .sla_mHL), (0xCB27, .sla_A), (0xCB28, .sra_B), (0xCB29, .sra_C),
    (0xCB2A, .sra_D), (0xCB2B, .sra_E), (0xCB2C, .sra_H), (0xCB2D, .sra_L), (0xCB2E, .sra_mHL), (0xCB2F, .sra_A),
    (0xCB38, .srl_B), (0xCB39, .srl_C), (0xCB3A, .srl_D), (0xCB3B, .srl_E), (0xCB3C, .srl_H), (0xCB3D, .srl_L),
    (0xCB3E, .srl_mHL), (0xCB3F, .srl_A), (0xCB40, .bit_0_B), (0xCB41, .bit_0_C), (0xCB42, .bit_0_D),
    (0xCB43, .bit_0_E), (0xCB44, .bit_0_H), (0xCB45, .bit_0_L), (0xCB46, .bit_0_mHL), (0xCB47, .bit_0_A)] = true := by
  decide +kernel

theorem test_decode_cb_2_bytes_part_2 : decodes 16
    [(0xCB48, .bit_1_B), (0xCB49, .bit_1_C), (0xCB4A, .bit_1_D), (0xCB4B, .bit_1_E), (0xCB4C, .bit_1_H),
    (0xCB4D, .bit_1_L), (0xCB4E, .bit_1_mHL), (0xCB4F, .bit_1_A), (0xCB50, .bit_2_B), (0xCB51, .bit_2_C),
    (0xCB52, .bit_2_D), (0xCB53, .bit_2_E), (0xCB54, .bit_2_H), (0xCB55, .bit_2_L), (0xCB56, .bit_2_mHL),
    (0xCB57, .bit_2_A), (0xCB58, .bit_3_B), (0xCB59, .bit_3_C), (0xCB5A, .bit_3_D), (0xCB5B, .bit_3_E),
    (0xCB5C, .bit_3_H), (0xCB5D, .bit_3_L), (0xCB5E, .bit_3_mHL), (0xCB5F, .bit_3_A), (0xCB60, .bit_4_B),
    (0xCB61, .bit_4_C), (0xCB62, .bit_4_D), (0xCB63, .bit_4_E), (0xCB64, .bit_4_H), (0xCB65, .bit_4_L),
    (0xCB66, .bit_4_mHL), (0xCB67, .bit_4_A), (0xCB68, .bit_5_B), (0xCB69, .bit_5_C), (0xCB6A, .bit_5_D),
    (0xCB6B, .bit_5_E), (0xCB6C, .bit_5_H), (0xCB6D, .bit_5_L), (0xCB6E, .bit_5_mHL), (0xCB6F, .bit_5_A),
    (0xCB70, .bit_6_B), (0xCB71, .bit_6_C), (0xCB72, .bit_6_D), (0xCB73, .bit_6_E), (0xCB74, .bit_6_H),
    (0xCB75, .bit_6_L), (0xCB76, .bit_6_mHL), (0xCB77, .bit_6_A), (0xCB78, .bit_7_B), (0xCB79, .bit_7_C),
    (0xCB7A, .bit_7_D), (0xCB7B, .bit_7_E), (0xCB7C, .bit_7_H), (0xCB7D, .bit_7_L), (0xCB7E, .bit_7_mHL),
    (0xCB7F, .bit_7_A), (0xCB80, .res_0_B), (0xCB81, .res_0_C), (0xCB82, .res_0_D), (0xCB83, .res_0_E),
    (0xCB84, .res_0_H), (0xCB85, .res_0_L), (0xCB86, .res_0_mHL), (0xCB87, .res_0_A)] = true := by
  decide +kernel

theorem test_decode_cb_2_bytes_part_3 : decodes 16
    [(0xCB88, .res_1_B), (0xCB89, .res_1_C), (0xCB8A, .res_1_D), (0xCB8B, .res_1_E), (0xCB8C, .res_1_H),
    (0xCB8D, .res_1_L), (0xCB8E, .res_1_mHL), (0xCB8F, .res_1_A), (0xCB90, .res_2_B), (0xCB91, .res_2_C),
    (0xCB92, .res_2_D), (0xCB93, .res_2_E), (0xCB94, .res_2_H), (0xCB95, .res_2_L), (0xCB96, .res_2_mHL),
    (0xCB97, .res_2_A), (0xCB98, .res_3_B), (0xCB99, .res_3_C), (0xCB9A, .res_3_D), (0xCB9B, .res_3_E),
    (0xCB9C, .res_3_H), (0xCB9D, .res_3_L), (0xCB9E, .res_3_mHL), (0xCB9F, .res_3_A), (0xCBA0, .res_4_B),
    (0xCBA1, .res_4_C), (0xCBA2, .res_4_D), (0xCBA3, .res_4_E), (0xCBA4, .res_4_H), (0xCBA5, .res_4_L),
    (0xCBA6, .res_4_mHL), (0xCBA7, .res_4_A), (0xCBA8, .res_5_B), (0xCBA9, .res_5_C), (0xCBAA, .res_5_D),
    (0xCBAB, .res_5_E), (0xCBAC, .res_5_H), (0xCBAD, .res_5_L), (0xCBAE, .res_5_mHL), (0xCBAF, .res_5_A),
    (0xCBB0, .res_6_B), (0xCBB1, .res_6_C), (0xCBB2, .res_6_D), (0xCBB3, .res_6_E), (0xCBB4, .res_6_H),
    (0xCBB5, .res_6_L), (0xCBB6, .res_6_mHL), (0xCBB7, .res_6_A), (0xCBB8, .res_7_B), (0xCBB9, .res_7_C),
    (0xCBBA, .res_7_D), (0xCBBB, .res_7_E), (0xCBBC, .res_7_H), (0xCBBD, .res_7_L), (0xCBBE, .res_7_mHL),
    (0xCBBF, .res_7_A), (0xCBC0, .set_0_B), (0xCBC1, .set_0_C), (0xCBC2, .set_0_D), (0xCBC3, .set_0_E),
    (0xCBC4, .set_0_H), (0xCBC5, .set_0_L), (0xCBC6, .set_0_mHL), (0xCBC7, .set_0_A)] = true := by
  decide +kernel

theorem test_decode_cb_2_bytes_part_4 : decodes 16
    [(0xCBC8, .set_1_B), (0xCBC9, .set_1_C), (0xCBCA, .set_1_D), (0xCBCB, .set_1_E), (0xCBCC, .set_1_H),
    (0xCBCD, .set_1_L), (0xCBCE, .set_1_mHL), (0xCBCF, .set_1_A), (0xCBD0, .set_2_B), (0xCBD1, .set_2_C),
    (0xCBD2, .set_2_D), (0xCBD3, .set_2_E), (0xCBD4, .set_2_H), (0xCBD5, .set_2_L), (0xCBD6, .set_2_mHL),
    (0xCBD7, .set_2_A), (0xCBD8, .set_3_B), (0xCBD9, .set_3_C), (0xCBDA, .set_3_D), (0xCBDB, .set_3_E),
    (0xCBDC, .set_3_H), (0xCBDD, .set_3_L), (0xCBDE, .set_3_mHL), (0xCBDF, .set_3_A), (0xCBE0, .set_4_B),
    (0xCBE1, .set_4_C), (0xCBE2, .set_4_D), (0xCBE3, .set_4_E), (0xCBE4, .set_4_H), (0xCBE5, .set_4_L),
    (0xCBE6, .set_4_mHL), (0xCBE7, .set_4_A), (0xCBE8, .set_5_B), (0xCBE9, .set_5_C), (0xCBEA, .set_5_D),
    (0xCBEB, .set_5_E), (0xCBEC, .set_5_H), (0xCBED, .set_5_L), (0xCBEE, .set_5_mHL), (0xCBEF, .set_5_A),
    (0xCBF0, .set_6_B), (0xCBF1, .set_6_C), (0xCBF2, .set_6_D), (0xCBF3, .set_6_E), (0xCBF4, .set_6_H),
    (0xCBF5, .set_6_L), (0xCBF6, .set_6_mHL), (0xCBF7, .set_6_A), (0xCBF8, .set_7_B), (0xCBF9, .set_7_C),
    (0xCBFA, .set_7_D), (0xCBFB, .set_7_E), (0xCBFC, .set_7_H), (0xCBFD, .set_7_L), (0xCBFE, .set_7_mHL),
    (0xCBFF, .set_7_A)] = true := by
  decide +kernel

theorem test_decode_ix_2_bytes : decodes 16
    [(0xDD09, .add_IX_BC), (0xDD19, .add_IX_DE), (0xDD23, .inc_IX), (0xDD24, .inc_IXh), (0xDD25, .dec_IXh),
    (0xDD29, .add_IX_IX), (0xDD2B, .dec_IX), (0xDD2C, .inc_IXl), (0xDD2D, .dec_IXl), (0xDD39, .add_IX_SP),
    (0xDD44, .ld_B_IXh), (0xDD45, .ld_B_IXl), (0xDD4C, .ld_C_IXh), (0xDD4D, .ld_C_IXl), (0xDD54, .ld_D_IXh),
    (0xDD55, .ld_D_IXl), (0xDD5C, .ld_E_IXh), (0xDD5D, .ld_E_IXl), (0xDD60, .ld_IXh_B), (0xDD61, .ld_IXh_C),
    (0xDD62, .ld_IXh_D), (0xDD63, .ld_IXh_E), (0xDD64, .ld_IXh_IXh), (0xDD65, .ld_IXh_IXl), (0xDD67, .ld_IXh_A),
    (0xDD68, .ld_IXl_B), (0xDD69, .ld_IXl_C), (0xDD6A, .ld_IXl_D), (0xDD6B, .ld_IXl_E), (0xDD6C, .ld_IXl_IXh),
    (0xDD6D, .ld_IXl_IXl), (0xDD6F, .ld_IXl_A), (0xDD7C, .ld_A_IXh), (0xDD7D, .ld_A_IXl), (0xDD84, .add_A_IXh),
    (0xDD85, .add_A_IXl), (0xDD8C, .adc_A_IXh), (0xDD8D, .adc_A_IXl), (0xDD94, .sub_IXh), (0xDD95, .sub_IXl),
    (0xDD9C, .sbc_A_IXh), (0xDD9D, .sbc_A_IXl), (0xDDA4, .and_IXh), (0xDDA5, .and_IXl), (0xDDAC, .xor_IXh),
    (0xDDAD, .xor_IXl), (0xDDB4, .or_IXh), (0xDDB5, .or_IXl), (0xDDBC, .cp_IXh), (0xDDBD, .cp_IXl),
    (0xDDE1, .pop_IX), (0xDDE3, .ex_mSP_IX), (0xDDE5, .push_IX), (0xDDE9, .jp_mIX), (0xDDF9, .ld_SP_IX)] = true := by
  decide +kernel

theorem test_decode_ix_4_bytes : decodes 32
    [(0xDD213412, .ld_IX_nn 0x1234), (0xDD223412, .ld_mnn_IX 0x1234), (0xDD2A3412, .ld_IX_mnn 0x1234),
    (0xDD368585, .ld_mIXd_n 0x85 0x85)] = true := by
  decide +kernel

theorem test_decode_ix_3_bytes : decodes 24
    [(0xDD2685, .ld_IXh_n 0x85), (0xDD2E85, .ld_IXl_n 0x85), (0xDD3485, .inc_mIXd 0x85), (0xDD3585, .dec_mIXd 0x85),
    (0xDD4685, .ld_B_mIXd 0x85), (0xDD4E85, .ld_C_mIXd 0x85), (0xDD5685, .ld_D_mIXd 0x85),
    (0xDD5E85, .ld_E_mIXd 0x85), (0xDD6685, .ld_H_mIXd 0x85), (0xDD6E85, .ld_L_mIXd 0x85),
    (0xDD7085, .ld_mIXd_B 0x85), (0xDD7185, .ld_mIXd_C 0x85), (0xDD7285, .ld_mIXd_D 0x85),
    (0xDD7385, .ld_mIXd_E 0x85), (0xDD7485, .ld_mIXd_H 0x85), (0xDD7585, .ld_mIXd_L 0x85),
    (0xDD7785, .ld_mIXd_A 0x85), (0xDD7E85, .ld_A_mIXd 0x85), (0xDD8685, .add_A_mIXd 0x85),
    (0xDD8E85, .adc_A_mIXd 0x85), (0xDD9685, .sub_mIXd 0x85), (0xDD9E85, .sbc_A_mIXd 0x85),
    (0xDDA685, .and_mIXd 0x85), (0xDDAE85, .xor_mIXd 0x85), (0xDDB685, .or_mIXd 0x85), (0xDDBE85, .cp_mIXd 0x85)] = true := by
  decide +kernel

theorem test_decode_ix_cb_4_bytes : decodes 32
    [(0xDDCB8506, .rlc_mIXd 0x85), (0xDDCB850E, .rrc_mIXd 0x85), (0xDDCB8516, .rl_mIXd 0x85),
    (0xDDCB851E, .rr_mIXd 0x85), (0xDDCB8526, .sla_mIXd 0x85), (0xDDCB852E, .sra_mIXd 0x85),
    (0xDDCB853E, .srl_mIXd 0x85), (0xDDCB8546, .bit_0_mIXd 0x85), (0xDDCB854E, .bit_1_mIXd 0x85),
    (0xDDCB8556, .bit_2_mIXd 0x85), (0xDDCB855E, .bit_3_mIXd 0x85), (0xDDCB8566, .bit_4_mIXd 0x85),
    (0xDDCB856E, .bit_5_mIXd 0x85), (0xDDCB8576, .bit_6_mIXd 0x85), (0xDDCB857E, .bit_7_mIXd 0x85),
    (0xDDCB8586, .res_0_mIXd 0x85), (0xDDCB858E, .res_1_mIXd 0x85), (0xDDCB8596, .res_2_mIXd 0x85),
    (0xDDCB859E, .res_3_mIXd 0x85), (0xDDCB85A6, .res_4_mIXd 0x85), (0xDDCB85AE, .res_5_mIXd 0x85),
    (0xDDCB85B6, .res_6_mIXd 0x85), (0xDDCB85BE, .res_7_mIXd 0x85), (0xDDCB85C6, .set_0_mIXd 0x85),
    (0xDDCB85CE, .set_1_mIXd 0x85), (0xDDCB85D6, .set_2_mIXd 0x85), (0xDDCB85DE, .set_3_mIXd 0x85),
    (0xDDCB85E6, .set_4_mIXd 0x85), (0xDDCB85EE, .set_5_mIXd 0x85), (0xDDCB85F6, .set_6_mIXd 0x85),
    (0xDDCB85FE, .set_7_mIXd 0x85)] = true := by
  decide +kernel

theorem test_decode_ed_2_bytes : decodes 16
    [(0xED40, .in_B_pC), (0xED41, .out_pC_B), (0xED42, .sbc_HL_BC), (0xED44, .neg), (0xED45, .retn), (0xED46, .im_0),
    (0xED47, .ld_I_A), (0xED48, .in_C_pC), (0xED49, .out_pC_C), (0xED4A, .adc_HL_BC), (0xED4D, .reti),
    (0xED4F, .ld_R_A), (0xED50, .in_D_pC), (0xED51, .out_pC_D), (0xED52, .sbc_HL_DE), (0xED56, .im_1),
    (0xED57, .ld_A_I), (0xED58, .in_E_pC), (0xED59, .out_pC_E), (0xED5A, .adc_HL_DE), (0xED5E, .im_2),
    (0xED5F, .ld_A_R), (0xED60, .in_H_pC), (0xED61, .out_pC_H), (0xED62, .sbc_HL_HL), (0xED67, .rrd),
    (0xED68, .in_L_pC), (0xED69, .out_pC_L), (0xED6A, .adc_HL_HL), (0xED6F, .rld), (0xED72, .sbc_HL_SP),
    (0xED78, .in_A_pC), (0xED79, .out_pC_A), (0xED7A, .adc_HL_SP), (0xEDA0, .ldi), (0xEDA1, .cpi), (0xEDA2, .ini),
    (0xEDA3, .outi), (0xEDA8, .ldd), (0xEDA9, .cpd), (0xEDAA, .ind), (0xEDAB, .outd), (0xEDB0, .ldir),
    (0xEDB1, .cpir), (0xEDB2, .inir), (0xEDB3, .otir), (0xEDB8, .lddr), (0xEDB9, .cpdr), (0xEDBA, .indr),
    (0xEDBB, .otdr)] = true := by
  decide +kernel

theorem test_decode_ed_4_bytes : decodes 32
    [(0xED433412, .ld_mnn_BC 0x1234), (0xED4B3412, .ld_BC_mnn 0x1234), (0xED533412, .ld_mnn_DE 0x1234),
    (0xED5B3412, .ld_DE_mnn 0x1234), (0xED633412, .ld_mnn_HL_ed 0x1234), (0xED6B3412, .ld_HL_mnn_ed 0x1234),
    (0xED733412, .ld_mnn_SP 0x1234), (0xED7B3412, .ld_SP_mnn 0x1234)] = true := by
  decide +kernel

theorem test_decode_iy_2_bytes : decodes 16
    [(0xFD09, .add_IY_BC), (0xFD19, .add_IY_DE), (0xFD23, .inc_IY), (0xFD24, .inc_IYh), (0xFD25, .dec_IYh),
    (0xFD29, .add_IY_IY), (0xFD2B, .dec_IY), (0xFD2C, .inc_IYl), (0xFD2D, .dec_IYl), (0xFD39, .add_IY_SP),
    (0xFD44, .ld_B_IYh), (0xFD45, .ld_B_IYl), (0xFD4C, .ld_C_IYh), (0xFD4D, .ld_C_IYl), (0xFD54, .ld_D_IYh),
    (0xFD55, .ld_D_IYl), (0xFD5C, .ld_E_IYh), (0xFD5D, .ld_E_IYl), (0xFD60, .ld_IYh_B), (0xFD61, .ld_IYh_C),
    (0xFD62, .ld_IYh_D), (0xFD63, .ld_IYh_E), (0xFD64, .ld_IYh_IYh), (0xFD65, .ld_IYh_IYl), (0xFD67, .ld_IYh_A),
    (0xFD68, .ld_IYl_B), (0xFD69, .ld_IYl_C), (0xFD6A, .ld_IYl_D), (0xFD6B, .ld_IYl_E), (0xFD6C, .ld_IYl_IYh),
    (0xFD6D, .ld_IYl_IYl), (0xFD6F, .ld_IYl_A), (0xFD7C, .ld_A_IYh), (0xFD7D, .ld_A_IYl), (0xFD84, .add_A_IYh),
    (0xFD85, .add_A_IYl), (0xFD8C, .adc_A_IYh), (0xFD8D, .adc_A_IYl), (0xFD94, .sub_IYh), (0xFD95, .sub_IYl),
    (0xFD9C, .sbc_A_IYh), (0xFD9D, .sbc_A_IYl), (0xFDA4, .and_IYh), (0xFDA5, .and_IYl), (0xFDAC, .xor_IYh),
    (0xFDAD, .xor_IYl), (0xFDB4, .or_IYh), (0xFDB5, .or_IYl), (0xFDBC, .cp_IYh), (0xFDBD, .cp_IYl),
    (0xFDE1, .pop_IY), (0xFDE3, .ex_mSP_IY), (0xFDE5, .push_IY), (0xFDE9, .jp_mIY), (0xFDF9, .ld_SP_IY)] = true := by
  decide +kernel

theorem test_decode_iy_4_bytes : decodes 32
    [(0xFD213412, .ld_IY_nn 0x1234), (0xFD223412, .ld_mnn_IY 0x1234), (0xFD2A3412, .ld_IY_mnn 0x1234),
    (0xFD368585, .ld_mIYd_n 0x85 0x85)] = true := by
  decide +kernel

theorem test_decode_iy_3_bytes : decodes 24
    [(0xFD2685, .ld_IYh_n 0x85), (0xFD2E85, .ld_IYl_n 0x85), (0xFD3485, .inc_mIYd 0x85), (0xFD3585, .dec_mIYd 0x85),
    (0xFD4685, .ld_B_mIYd 0x85), (0xFD4E85, .ld_C_mIYd 0x85), (0xFD5685, .ld_D_mIYd 0x85),
    (0xFD5E85, .ld_E_mIYd 0x85), (0xFD6685, .ld_H_mIYd 0x85), (0xFD6E85, .ld_L_mIYd 0x85),
    (0xFD7085, .ld_mIYd_B 0x85), (0xFD7185, .ld_mIYd_C 0x85), (0xFD7285, .ld_mIYd_D 0x85),
    (0xFD7385, .ld_mIYd_E 0x85), (0xFD7485, .ld_mIYd_H 0x85), (0xFD7585, .ld_mIYd_L 0x85),
    (0xFD7785, .ld_mIYd_A 0x85), (0xFD7E85, .ld_A_mIYd 0x85), (0xFD8685, .add_A_mIYd 0x85),
    (0xFD8E85, .adc_A_mIYd 0x85), (0xFD9685, .sub_mIYd 0x85), (0xFD9E85, .sbc_A_mIYd 0x85),
    (0xFDA685, .and_mIYd 0x85), (0xFDAE85, .xor_mIYd 0x85), (0xFDB685, .or_mIYd 0x85), (0xFDBE85, .cp_mIYd 0x85)] = true := by
  decide +kernel

theorem test_decode_iy_cb_4_bytes : decodes 32
    [(0xFDCB8506, .rlc_mIYd 0x85), (0xFDCB850E, .rrc_mIYd 0x85), (0xFDCB8516, .rl_mIYd 0x85),
    (0xFDCB851E, .rr_mIYd 0x85), (0xFDCB8526, .sla_mIYd 0x85), (0xFDCB852E, .sra_mIYd 0x85),
    (0xFDCB853E, .srl_mIYd 0x85), (0xFDCB8546, .bit_0_mIYd 0x85), (0xFDCB854E, .bit_1_mIYd 0x85),
    (0xFDCB8556, .bit_2_mIYd 0x85), (0xFDCB855E, .bit_3_mIYd 0x85), (0xFDCB8566, .bit_4_mIYd 0x85),
    (0xFDCB856E, .bit_5_mIYd 0x85), (0xFDCB8576, .bit_6_mIYd 0x85), (0xFDCB857E, .bit_7_mIYd 0x85),
    (0xFDCB8586, .res_0_mIYd 0x85), (0xFDCB858E, .res_1_mIYd 0x85), (0xFDCB8596, .res_2_mIYd 0x85),
    (0xFDCB859E, .res_3_mIYd 0x85), (0xFDCB85A6, .res_4_mIYd 0x85), (0xFDCB85AE, .res_5_mIYd 0x85),
    (0xFDCB85B6, .res_6_mIYd 0x85), (0xFDCB85BE, .res_7_mIYd 0x85), (0xFDCB85C6, .set_0_mIYd 0x85),
    (0xFDCB85CE, .set_1_mIYd 0x85), (0xFDCB85D6, .set_2_mIYd 0x85), (0xFDCB85DE, .set_3_mIYd 0x85),
    (0xFDCB85E6, .set_4_mIYd 0x85), (0xFDCB85EE, .set_5_mIYd 0x85), (0xFDCB85F6, .set_6_mIYd 0x85),
    (0xFDCB85FE, .set_7_mIYd 0x85)] = true := by
  decide +kernel

/-! ### One step per instruction family (95_test_vectors.md section 2) -/

/-- Vector A1 (R255, R140). -/
theorem test_add_overflows_into_the_sign :
    after1 [0x80] { State.reset with a := 0x7F, b := 0x01, f := flags 0x00 } (fun t =>
       t.a == 0x80 && t.f.toByte == 0x94) = true := by
  decide +kernel

/-- Vector A8 (R256, R140). -/
theorem test_adc_carries_with_the_carry_in :
    after1 [0x88] { State.reset with a := 0xFF, b := 0xFF, f := flags 0x01 } (fun t =>
       t.f.toByte == 0xB9) = true := by
  decide +kernel

/-- Vector A9 (R257, R141). -/
theorem test_sub_overflows_out_of_the_sign :
    after1 [0x90] { State.reset with a := 0x80, b := 0x01, f := flags 0x00 } (fun t =>
       t.a == 0x7F && t.f.toByte == 0x3E) = true := by
  decide +kernel

/-- Vector A13 (R258, R141). -/
theorem test_sbc_borrows_with_the_carry_in :
    after1 [0x98] { State.reset with a := 0x00, b := 0x00, f := flags 0x01 } (fun t =>
       t.a == 0xFF && t.f.toByte == 0xBB) = true := by
  decide +kernel

/-- Vector A15 (R259, R144). -/
theorem test_and_sets_half_carry_and_parity :
    after1 [0xA0] { State.reset with a := 0xF0, b := 0x3C, f := flags 0xFF } (fun t =>
       t.a == 0x30 && t.f.toByte == 0x34) = true := by
  decide +kernel

/-- Vector A17 (R260, R146). -/
theorem test_xor_clears_carry :
    after1 [0xA8] { State.reset with a := 0xFF, b := 0x0F, f := flags 0xFF } (fun t =>
       t.a == 0xF0 && t.f.toByte == 0xA4) = true := by
  decide +kernel

/-- Vector A19 (R261, R145). -/
theorem test_or_gives_parity :
    after1 [0xB0] { State.reset with a := 0x80, b := 0x01, f := flags 0xFF } (fun t =>
       t.a == 0x81 && t.f.toByte == 0x84) = true := by
  decide +kernel

/-- Vector A20 (R262, R143). -/
theorem test_cp_takes_x_and_y_from_the_difference :
    after1 [0xB8] { State.reset with a := 0x40, b := 0x38, f := flags 0x00 } (fun t =>
       t.f.toByte == 0x1A) = true := by
  decide +kernel

/-- Vector A23 (R262, R143). -/
theorem test_cp_immediate_overflows :
    after1 [0xFE, 0x80] { State.reset with a := 0x7F, f := flags 0x00 } (fun t =>
       t.f.toByte == 0xAF) = true := by
  decide +kernel

/-- Vector A27 (R262). -/
theorem test_cp_memory :
    after1 [0xBE] { State.reset with
        a := 0x10, h := 0x40, l := 0x00, f := flags 0x00, mem := [(0x4000, 0x20)] } (fun t =>
       t.f.toByte == 0xA3) = true := by
  decide +kernel

/-- Vector B1 (R218, R148). -/
theorem test_inc_to_the_sign_keeps_carry :
    after1 [0x3C] { State.reset with a := 0x7F, f := flags 0x01 } (fun t =>
       t.a == 0x80 && t.f.toByte == 0x95) = true := by
  decide +kernel

/-- Vector B5 (R219, R149). -/
theorem test_dec_from_the_sign_keeps_carry :
    after1 [0x3D] { State.reset with a := 0x80, f := flags 0x01 } (fun t =>
       t.a == 0x7F && t.f.toByte == 0x3F) = true := by
  decide +kernel

/-- Vector B9 (R218). -/
theorem test_inc_memory_wraps :
    after1 [0x34] { State.reset with h := 0x40, l := 0x00, f := flags 0x01, mem := [(0x4000, 0xFF)] } (fun t =>
       t.f.toByte == 0x51 && t.mem.read 0x4000 == 0x00) = true := by
  decide +kernel

/-- Vector B10 (R219). -/
theorem test_dec_memory_to_zero :
    after1 [0x35] { State.reset with h := 0x40, l := 0x00, f := flags 0x00, mem := [(0x4000, 0x01)] } (fun t =>
       t.f.toByte == 0x42 && t.mem.read 0x4000 == 0x00) = true := by
  decide +kernel

/-- Vector C2 (R207, R150). -/
theorem test_add_hl_keeps_s_z_pv :
    after1 [0x09] { State.reset with h := 0xFF, l := 0xFF, b := 0x00, c := 0x01, f := flags 0xC4 } (fun t =>
       t.h == 0x00 && t.l == 0x00 && t.f.toByte == 0xD5) = true := by
  decide +kernel

/-- Vector C4 (R207, R150). -/
theorem test_add_hl_sp_takes_x_and_y_from_the_high_byte :
    after1 [0x39] { State.reset with h := 0x10, l := 0x00, sp := 0x1800, f := flags 0x00 } (fun t =>
       t.h == 0x28 && t.f.toByte == 0x28) = true := by
  decide +kernel

/-- Vector C5 (R353, R151). -/
theorem test_adc_hl_overflows :
    after1 [0xED, 0x4A] { State.reset with h := 0x7F, l := 0xFF, b := 0x00, c := 0x00, f := flags 0x01 } (fun t =>
       t.h == 0x80 && t.l == 0x00 && t.f.toByte == 0x94) = true := by
  decide +kernel

/-- Vector C8 (R352, R152). -/
theorem test_sbc_hl_borrows :
    after1 [0xED, 0x42] { State.reset with h := 0x00, l := 0x00, b := 0x00, c := 0x01, f := flags 0x00 } (fun t =>
       t.h == 0xFF && t.l == 0xFF && t.f.toByte == 0xBB) = true := by
  decide +kernel

/-- Vector C12 (R216). -/
theorem test_inc_bc_wraps :
    after1 [0x03] { State.reset with b := 0xFF, c := 0xFF, f := flags 0x00 } (fun t =>
       t.b == 0x00 && t.c == 0x00) = true := by
  decide +kernel

/-- Vector C13 (R217). -/
theorem test_dec_de_wraps :
    after1 [0x1B] { State.reset with d := 0x00, e := 0x00, f := flags 0xFF } (fun t =>
       t.d == 0xFF && t.e == 0xFF) = true := by
  decide +kernel

/-- Vector C15 (R206). -/
theorem test_ld_bc_nn_low_byte_first :
    after1 [0x01, 0x34, 0x12] State.reset (fun t =>
       t.b == 0x12 && t.c == 0x34) = true := by
  decide +kernel

/-- Vector C17 (R210). -/
theorem test_ld_nn_hl_low_byte_first :
    after1 [0x22, 0x00, 0x40] { State.reset with h := 0xBE, l := 0xEF } (fun t =>
       t.mem.read 0x4000 == 0xEF && t.mem.read 0x4001 == 0xBE) = true := by
  decide +kernel

/-- Vector C18 (R214, R63). -/
theorem test_ld_hl_nn_wraps_round_the_top_of_memory :
    after1 [0x2A, 0xFF, 0xFF] { State.reset with mem := [(0x0000, 0x12), (0xFFFF, 0x34)] } (fun t =>
       t.h == 0x12 && t.l == 0x34) = true := by
  decide +kernel

/-- Vector C19 (R354). -/
theorem test_ld_nn_sp :
    after1 [0xED, 0x73, 0x00, 0x40] { State.reset with sp := 0x1234 } (fun t =>
       t.mem.read 0x4000 == 0x34 && t.mem.read 0x4001 == 0x12) = true := by
  decide +kernel

/-- Vector C21 (R355). -/
theorem test_ld_hl_nn_by_its_ed_row :
    after1 [0xED, 0x6B, 0x00, 0x40] { State.reset with mem := [(0x4000, 0xCD), (0x4001, 0xAB)] } (fun t =>
       t.h == 0xAB && t.l == 0xCD) = true := by
  decide +kernel

/-- Vector D5 (R222, R153). -/
theorem test_rlca_keeps_s_z_pv :
    after1 [0x07] { State.reset with a := 0x14, f := flags 0xC4 } (fun t =>
       t.a == 0x28 && t.f.toByte == 0xEC) = true := by
  decide +kernel

/-- Vector D2 (R223, R153). -/
theorem test_rrca_bit_0_to_carry :
    after1 [0x0F] { State.reset with a := 0x01, f := flags 0x00 } (fun t =>
       t.a == 0x80 && t.f.toByte == 0x01) = true := by
  decide +kernel

/-- Vector D3 (R224, R153). -/
theorem test_rla_takes_the_old_carry :
    after1 [0x17] { State.reset with a := 0x80, f := flags 0x00 } (fun t =>
       t.a == 0x00 && t.f.toByte == 0x01) = true := by
  decide +kernel

/-- Vector D4 (R225, R153). -/
theorem test_rra_takes_the_old_carry :
    after1 [0x1F] { State.reset with a := 0x01, f := flags 0x01 } (fun t =>
       t.a == 0x80) = true := by
  decide +kernel

/-- Vector D9 (R226, R155). -/
theorem test_daa_carries :
    after1 [0x27] { State.reset with a := 0x9A, f := flags 0x00 } (fun t =>
       t.a == 0x00 && t.f.toByte == 0x55) = true := by
  decide +kernel

/-- Vector D11 (R227). -/
theorem test_cpl_sets_h_and_n :
    after1 [0x2F] { State.reset with a := 0x5A, f := flags 0x00 } (fun t =>
       t.a == 0xA5 && t.f.toByte == 0x32) = true := by
  decide +kernel

/-- Vector D12 (R228). -/
theorem test_scf_fixed_flags :
    after1 [0x37] { State.reset with f := flags 0x12 } (fun t =>
       !t.f.s && !t.f.z && !t.f.h && !t.f.pv && !t.f.n && t.f.c) = true := by
  decide +kernel

/-- Vector D13 (R229). -/
theorem test_ccf_moves_c_to_h :
    after1 [0x3F] { State.reset with f := flags 0x01 } (fun t =>
       !t.f.s && !t.f.z && t.f.h && !t.f.pv && !t.f.n && !t.f.c) = true := by
  decide +kernel

/-- Vector D16 (R200, R36). -/
theorem test_nop_counts_r_with_bit_7_kept :
    after1 [0x00] { State.reset with r := 0xFF } (fun t =>
       t.r == 0x80) = true := by
  decide +kernel

/-- Vector D17 (R201). -/
theorem test_ex_af_moves_the_flags :
    after1 [0x08] { State.reset with a := 0x12, f := flags 0x34, aAlt := 0x56, fAlt := flags 0x78 } (fun t =>
       t.a == 0x56 && t.f.toByte == 0x78 && t.aAlt == 0x12 && t.fAlt.toByte == 0x34) = true := by
  decide +kernel

/-- Vector D18 (R283). -/
theorem test_exx :
    after1 [0xD9] { State.reset with
        b := 0x11, c := 0x11, d := 0x22, e := 0x22, h := 0x33, l := 0x33, bAlt := 0xAA, cAlt := 0xBB
        dAlt := 0xCC, eAlt := 0xDD, hAlt := 0xEE, lAlt := 0x99 } (fun t =>
       t.b == 0xAA && t.c == 0xBB && t.d == 0xCC && t.e == 0xDD && t.h == 0xEE && t.l == 0x99 && t.bAlt == 0x11 &&
       t.cAlt == 0x11 && t.dAlt == 0x22 && t.eAlt == 0x22 && t.hAlt == 0x33 && t.lAlt == 0x33) = true := by
  decide +kernel

/-- Vector D19 (R291). -/
theorem test_ex_de_hl :
    after1 [0xEB] { State.reset with d := 0x12, e := 0x34, h := 0xAB, l := 0xCD } (fun t =>
       t.d == 0xAB && t.e == 0xCD && t.h == 0x12 && t.l == 0x34) = true := by
  decide +kernel

/-- Vector D20 (R290). -/
theorem test_ex_sp_hl :
    after1 [0xE3] { State.reset with
        h := 0x12, l := 0x34, sp := 0x8000, mem := [(0x8000, 0xCD), (0x8001, 0xAB)] } (fun t =>
       t.h == 0xAB && t.l == 0xCD && t.mem.read 0x8001 == 0x12 && t.mem.read 0x8000 == 0x34) = true := by
  decide +kernel

/-- Vector E1 (R250). -/
theorem test_ld_a_b :
    after1 [0x78] { State.reset with a := 0x00, b := 0x42 } (fun t =>
       t.a == 0x42) = true := by
  decide +kernel

/-- Vector E3 (R251). -/
theorem test_ld_a_from_hl :
    after1 [0x7E] { State.reset with h := 0x40, l := 0x00, mem := [(0x4000, 0x99)] } (fun t =>
       t.a == 0x99) = true := by
  decide +kernel

/-- Vector E5 (R252). -/
theorem test_ld_to_hl_from_h :
    after1 [0x74] { State.reset with h := 0x40, l := 0x00 } (fun t =>
       t.mem.read 0x4000 == 0x40) = true := by
  decide +kernel

/-- Vector E7 (R221). -/
theorem test_ld_to_hl_immediate :
    after1 [0x36, 0x99] { State.reset with h := 0x40, l := 0x00 } (fun t =>
       t.mem.read 0x4000 == 0x99) = true := by
  decide +kernel

/-- Vector E8 (R208). -/
theorem test_ld_to_bc_from_a :
    after1 [0x02] { State.reset with b := 0x40, c := 0x00, a := 0x11 } (fun t =>
       t.mem.read 0x4000 == 0x11) = true := by
  decide +kernel

/-- Vector E9 (R213). -/
theorem test_ld_a_from_de :
    after1 [0x1A] { State.reset with d := 0x40, e := 0x00, mem := [(0x4000, 0x77)] } (fun t =>
       t.a == 0x77) = true := by
  decide +kernel

/-- Vector E10 (R211). -/
theorem test_ld_nn_a :
    after1 [0x32, 0x00, 0x40] { State.reset with a := 0x3C } (fun t =>
       t.mem.read 0x4000 == 0x3C) = true := by
  decide +kernel

/-- Vector E12 (R285). -/
theorem test_ld_sp_hl :
    after1 [0xF9] { State.reset with h := 0x80, l := 0x00 } (fun t =>
       t.sp == 0x8000) = true := by
  decide +kernel

/-- Vector F1 (R203, R204). -/
theorem test_jr_back :
    after1 [0x18, 0x80] State.reset (fun t =>
       t.pc == 0x0082) = true := by
  decide +kernel

/-- Vector F5 (R205). -/
theorem test_jr_z_not_taken :
    after1 [0x28, 0x05] { State.reset with f := flags 0x00 } (fun t =>
       t.pc == 0x0102 && t.tstates == 7) = true := by
  decide +kernel

/-- Vector F6 (R205). -/
theorem test_jr_c_taken :
    after1 [0x38, 0x10] { State.reset with f := flags 0x01 } (fun t =>
       t.pc == 0x0112) = true := by
  decide +kernel

/-- Vector F9 (R202). -/
theorem test_djnz_wraps_b :
    after1 [0x10, 0xFE] { State.reset with b := 0x00 } (fun t =>
       t.b == 0xFF && t.pc == 0x0100) = true := by
  decide +kernel

/-- Vector F8 (R202). -/
theorem test_djnz_ends :
    after1 [0x10, 0xFE] { State.reset with b := 0x01 } (fun t =>
       t.b == 0x00 && t.pc == 0x0102 && t.tstates == 8) = true := by
  decide +kernel

/-- Vector F11 (R286, R180). -/
theorem test_jp_pe_taken :
    after1 [0xEA, 0x00, 0x20] { State.reset with f := flags 0x04 } (fun t =>
       t.pc == 0x2000) = true := by
  decide +kernel

/-- Vector F13 (R286, R180). -/
theorem test_jp_p_not_taken :
    after1 [0xF2, 0x00, 0x20] { State.reset with f := flags 0x80 } (fun t =>
       t.pc == 0x0103) = true := by
  decide +kernel

/-- Vector F14 (R284). -/
theorem test_jp_hl :
    after1 [0xE9] { State.reset with h := 0x30, l := 0x00 } (fun t =>
       t.pc == 0x3000) = true := by
  decide +kernel

/-- Vector F15 (R296). -/
theorem test_call :
    after1 [0xCD, 0x00, 0x20] { State.reset with sp := 0x8000 } (fun t =>
       t.sp == 0x7FFE && t.pc == 0x2000 && t.mem.read 0x7FFF == 0x01 && t.mem.read 0x7FFE == 0x03) = true := by
  decide +kernel

/-- Vector F16 (R294). -/
theorem test_call_nz_not_taken :
    after1 [0xC4, 0x00, 0x20] { State.reset with sp := 0x8000, f := flags 0x40 } (fun t =>
       t.pc == 0x0103 && t.tstates == 10) = true := by
  decide +kernel

/-- Vector F18 (R282). -/
theorem test_ret :
    after1 [0xC9] { State.reset with sp := 0x7FFE, mem := [(0x7FFE, 0x03), (0x7FFF, 0x01)] } (fun t =>
       t.sp == 0x8000 && t.pc == 0x0103) = true := by
  decide +kernel

/-- Vector F19 (R280). -/
theorem test_ret_z_not_taken :
    after1 [0xC8] { State.reset with
        sp := 0x7FFE, f := flags 0x00, mem := [(0x7FFE, 0x03), (0x7FFF, 0x01)] } (fun t =>
       t.pc == 0x0101 && t.tstates == 5) = true := by
  decide +kernel

/-- Vector F22 (R297). -/
theorem test_rst_0_wraps_sp :
    after1 [0xC7] { State.reset with sp := 0x0000 } (fun t =>
       t.sp == 0xFFFE && t.pc == 0x0000 && t.mem.read 0xFFFF == 0x01 && t.mem.read 0xFFFE == 0x01) = true := by
  decide +kernel

/-- Vector F23 (R295). -/
theorem test_push_af :
    after1 [0xF5] { State.reset with a := 0x12, f := flags 0x34, sp := 0x8000 } (fun t =>
       t.sp == 0x7FFE && t.pc == 0x0101 && t.mem.read 0x7FFF == 0x12 && t.mem.read 0x7FFE == 0x34) = true := by
  decide +kernel

/-- Vector F24 (R281). -/
theorem test_pop_af_writes_all_flags :
    after1 [0xF1] { State.reset with sp := 0x7FFE, mem := [(0x7FFE, 0xD7), (0x7FFF, 0x12)] } (fun t =>
       t.a == 0x12 && t.sp == 0x8000 && t.pc == 0x0101 && t.f.toByte == 0xD7) = true := by
  decide +kernel

/-- Vector F28 (R253). -/
theorem test_halt :
    after1 [0x76] State.reset (fun t =>
       t.pc == 0x0101 && t.halted) = true := by
  decide +kernel

/-- Vector F30 (R292). -/
theorem test_di :
    after1 [0xF3] { State.reset with iff1 := true, iff2 := true } (fun t =>
       t.pc == 0x0101 && !t.iff1 && !t.iff2 && t.eiDiDelay) = true := by
  decide +kernel

/-- Vector F31 (R293). -/
theorem test_ei :
    after1 [0xFB] State.reset (fun t =>
       t.pc == 0x0101 && t.iff1 && t.iff2 && t.eiDiDelay) = true := by
  decide +kernel

/-- Vector F32 (R288, R100). -/
theorem test_out_n_a :
    after1 [0xD3, 0xFE] { State.reset with a := 0x12 } (fun t =>
       t.pc == 0x0102 && t.trace.contains (.ioWrite 0x12FE 0x12)) = true := by
  decide +kernel

/-- Vector F33 (R289, R100). -/
theorem test_in_a_n_sets_no_flag :
    after1 [0xDB, 0xFE] { State.reset with a := 0x12, f := flags 0x00, ioIn := [0x5A] } (fun t =>
       t.a == 0x5A && t.pc == 0x0102 && t.trace.contains (.ioRead 0x12FE 0x5A)) = true := by
  decide +kernel

/-- Vector G1 (R331, R154). -/
theorem test_rlc_b :
    after1 [0xCB, 0x00] { State.reset with b := 0x80, f := flags 0x00 } (fun t =>
       t.b == 0x01 && t.f.toByte == 0x01) = true := by
  decide +kernel

/-- Vector G3 (R333, R154). -/
theorem test_rl_d_to_zero :
    after1 [0xCB, 0x12] { State.reset with d := 0x80, f := flags 0x00 } (fun t =>
       t.d == 0x00 && t.f.toByte == 0x45) = true := by
  decide +kernel

/-- Vector G5 (R335, R154). -/
theorem test_sla_a :
    after1 [0xCB, 0x27] { State.reset with a := 0xC1, f := flags 0x00 } (fun t =>
       t.a == 0x82 && t.f.toByte == 0x85) = true := by
  decide +kernel

/-- Vector G6 (R336, R154). -/
theorem test_sra_keeps_the_sign :
    after1 [0xCB, 0x2F] { State.reset with a := 0x81, f := flags 0x00 } (fun t =>
       t.a == 0xC0 && t.f.toByte == 0x85) = true := by
  decide +kernel

/-- Vector G7 (R337, R154). -/
theorem test_srl_a :
    after1 [0xCB, 0x3F] { State.reset with a := 0x81, f := flags 0x00 } (fun t =>
       t.a == 0x40 && t.f.toByte == 0x01) = true := by
  decide +kernel

/-- Vector G9 (R338, R156). -/
theorem test_bit_7_sets_sign :
    after1 [0xCB, 0x7F] { State.reset with a := 0x80, f := flags 0x01 } (fun t =>
       t.f.toByte == 0x91) = true := by
  decide +kernel

/-- Vector G12 (R338, R156). -/
theorem test_bit_0_memory_fixed_flags :
    after1 [0xCB, 0x46] { State.reset with h := 0x40, l := 0x00, f := flags 0x01 } (fun t =>
       !t.f.s && t.f.z && t.f.h && t.f.pv && !t.f.n && t.f.c) = true := by
  decide +kernel

/-- Vector G13 (R339). -/
theorem test_res_0_a :
    after1 [0xCB, 0x87] { State.reset with a := 0xFF } (fun t =>
       t.a == 0xFE) = true := by
  decide +kernel

/-- Vector G14 (R340). -/
theorem test_set_7_memory :
    after1 [0xCB, 0xFE] { State.reset with h := 0x40, l := 0x00 } (fun t =>
       t.mem.read 0x4000 == 0x80) = true := by
  decide +kernel

/-- Vector H1 (R360). -/
theorem test_neg_borrows :
    after1 [0xED, 0x44] { State.reset with a := 0x01, f := flags 0x00 } (fun t =>
       t.a == 0xFF && t.f.toByte == 0xBB) = true := by
  decide +kernel

/-- Vector H4 (R363). -/
theorem test_im_2 :
    after1 [0xED, 0x5E] State.reset (fun t =>
       t.im == .im2) = true := by
  decide +kernel

/-- Vector H6 (R364). -/
theorem test_ld_i_a :
    after1 [0xED, 0x47] { State.reset with a := 0x12 } (fun t =>
       t.i == 0x12) = true := by
  decide +kernel

/-- Vector H7 (R365). -/
theorem test_ld_r_a_writes_after_the_fetch :
    after1 [0xED, 0x4F] { State.reset with a := 0x85 } (fun t =>
       t.r == 0x85) = true := by
  decide +kernel

/-- Vector H8 (R366). -/
theorem test_ld_a_i_reports_iff2 :
    after1 [0xED, 0x57] { State.reset with i := 0x00, iff2 := true, f := flags 0x01 } (fun t =>
       t.a == 0x00 && t.f.toByte == 0x45) = true := by
  decide +kernel

/-- Vector H10 (R367, R36). -/
theorem test_ld_a_r_counts_the_fetch :
    after1 [0xED, 0x5F] { State.reset with r := 0x7E, iff2 := true, f := flags 0x00 } (fun t =>
       t.a == 0x00 && t.r == 0x00 && t.f.toByte == 0x44) = true := by
  decide +kernel

/-- Vector H11 (R368). -/
theorem test_rrd :
    after1 [0xED, 0x67] { State.reset with
        a := 0x84, h := 0x40, l := 0x00, f := flags 0x00, mem := [(0x4000, 0x20)] } (fun t =>
       t.a == 0x80 && t.f.toByte == 0x80 && t.mem.read 0x4000 == 0x42) = true := by
  decide +kernel

/-- Vector H12 (R369). -/
theorem test_rld :
    after1 [0xED, 0x6F] { State.reset with
        a := 0x7A, h := 0x40, l := 0x00, f := flags 0x00, mem := [(0x4000, 0x31)] } (fun t =>
       t.a == 0x73 && t.f.toByte == 0x20 && t.mem.read 0x4000 == 0x1A) = true := by
  decide +kernel

/-- Vector H13 (R350). -/
theorem test_in_a_c_keeps_carry :
    after1 [0xED, 0x78] { State.reset with b := 0x12, c := 0xFE, f := flags 0x01, ioIn := [0x00] } (fun t =>
       t.a == 0x00 && t.f.toByte == 0x45 && t.trace.contains (.ioRead 0x12FE 0x00)) = true := by
  decide +kernel

/-- Vector H14 (R351). -/
theorem test_out_c_a :
    after1 [0xED, 0x79] { State.reset with b := 0x12, c := 0xFE, a := 0x77 } (fun t =>
       t.trace.contains (.ioWrite 0x12FE 0x77)) = true := by
  decide +kernel

/-- Vector H15 (R361). -/
theorem test_retn_restores_iff1 :
    after1 [0xED, 0x45] { State.reset with
        sp := 0x7FFE, iff1 := false, iff2 := true, mem := [(0x7FFF, 0x30)] } (fun t =>
       t.sp == 0x8000 && t.pc == 0x3000 && t.iff1) = true := by
  decide +kernel

/-- Vector K2 (R392). -/
theorem test_ldi_x_and_y_from_the_sum :
    after1 [0xED, 0xA0] { State.reset with
        a := 0x20, h := 0x40, l := 0x00, d := 0x50, e := 0x00, b := 0x00, c := 0x01, f := flags 0x00
        mem := [(0x4000, 0x08)] } (fun t =>
       t.c == 0x00 && t.e == 0x01 && t.l == 0x01 && t.f.toByte == 0x08 && t.mem.read 0x5000 == 0x08) = true := by
  decide +kernel

/-- Vector K4 (R394, R391). -/
theorem test_ldir_rewinds :
    after1 [0xED, 0xB0] { State.reset with
        a := 0x00, h := 0x40, l := 0x00, d := 0x50, e := 0x00, b := 0x00, c := 0x03, f := flags 0x00
        mem := [(0x4000, 0x01), (0x4001, 0x02), (0x4002, 0x03)] } (fun t =>
       t.c == 0x02 && t.e == 0x01 && t.l == 0x01 && t.pc == 0x0100 && t.f.toByte == 0x04 &&
       t.mem.read 0x5000 == 0x01) = true := by
  decide +kernel

/-- Vector K6 (R394, R391). -/
theorem test_ldir_ends :
    after1 [0xED, 0xB0] { State.reset with
        a := 0x00, h := 0x40, l := 0x00, d := 0x50, e := 0x00, b := 0x00, c := 0x01, f := flags 0x00
        mem := [(0x4000, 0x01)] } (fun t =>
       t.c == 0x00 && t.e == 0x01 && t.l == 0x01 && t.pc == 0x0102 && t.mem.read 0x5000 == 0x01) = true := by
  decide +kernel

/-- Vector K3 (R393). -/
theorem test_ldd_wraps_bc :
    after1 [0xED, 0xA8] { State.reset with
        a := 0x00, h := 0x40, l := 0x00, d := 0x50, e := 0x00, b := 0x00, c := 0x00, f := flags 0x00
        mem := [(0x4000, 0x11)] } (fun t =>
       t.b == 0xFF && t.c == 0xFF && t.d == 0x4F && t.e == 0xFF && t.h == 0x3F && t.l == 0xFF &&
       t.f.toByte == 0x04 && t.mem.read 0x5000 == 0x11) = true := by
  decide +kernel

/-- Vector K9 (R396). -/
theorem test_cpi_x_and_y_less_half_carry :
    after1 [0xED, 0xA1] { State.reset with
        a := 0x10, h := 0x40, l := 0x00, b := 0x00, c := 0x01, f := flags 0x00, mem := [(0x4000, 0x01)] } (fun t =>
       t.c == 0x00 && t.l == 0x01 && t.f.toByte == 0x3A) = true := by
  decide +kernel

/-- Vector K10 (R397). -/
theorem test_cpd_counts_down :
    after1 [0xED, 0xA9] { State.reset with
        a := 0x00, h := 0x40, l := 0x00, b := 0x00, c := 0x05, f := flags 0x00, mem := [(0x4000, 0x01)] } (fun t =>
       t.c == 0x04 && t.h == 0x3F && t.l == 0xFF && t.f.toByte == 0xBE) = true := by
  decide +kernel

/-- Vector K14 (R400). -/
theorem test_ini_port_before_the_decrement :
    after1 [0xED, 0xA2] { State.reset with
        b := 0x02, c := 0x10, h := 0x40, l := 0x00, f := flags 0x00, ioIn := [0x5A] } (fun t =>
       t.b == 0x01 && t.l == 0x01 && !t.f.z && t.f.n && t.mem.read 0x4000 == 0x5A &&
       t.trace.contains (.ioRead 0x0210 0x5A)) = true := by
  decide +kernel

/-- Vector K19 (R405). -/
theorem test_outd_port_before_the_decrement :
    after1 [0xED, 0xAB] { State.reset with
        b := 0x01, c := 0x10, h := 0x40, l := 0x00, f := flags 0x00, mem := [(0x4000, 0x77)] } (fun t =>
       t.b == 0x00 && t.h == 0x3F && t.l == 0xFF && t.f.z && t.f.n &&
       t.trace.contains (.ioWrite 0x0110 0x77)) = true := by
  decide +kernel

/-- Vector K21 (R407). -/
theorem test_otdr_b_0_repeats :
    after1 [0xED, 0xBB] { State.reset with
        b := 0x00, c := 0x10, h := 0x40, l := 0x00, f := flags 0x00, mem := [(0x4000, 0x77)] } (fun t =>
       t.b == 0xFF && t.h == 0x3F && t.l == 0xFF && t.pc == 0x0100 && !t.f.z && t.f.n &&
       t.trace.contains (.ioWrite 0x0010 0x77)) = true := by
  decide +kernel

/-- Vector M3 (R421, R207). -/
theorem test_add_ix_ix :
    after1 [0xDD, 0x29] { State.reset with ix := 0x4000, h := 0x11, l := 0x11, f := flags 0x00 } (fun t =>
       t.ix == 0x8000) = true := by
  decide +kernel

/-- Vector M5 (R422, R251). -/
theorem test_ld_a_ix_negative_displacement :
    after1 [0xDD, 0x7E, 0xFB] { State.reset with ix := 0x4000, mem := [(0x3FFB, 0x42)] } (fun t =>
       t.a == 0x42) = true := by
  decide +kernel

/-- Vector M6 (R422, R252). -/
theorem test_ld_ix_stores_h_itself :
    after1 [0xDD, 0x74, 0x01] { State.reset with ix := 0x4000, h := 0x12 } (fun t =>
       t.mem.read 0x4001 == 0x12) = true := by
  decide +kernel

/-- Vector M7 (R422, R221). -/
theorem test_ld_iy_immediate :
    after1 [0xFD, 0x36, 0x02, 0x99] { State.reset with iy := 0x4000 } (fun t =>
       t.mem.read 0x4002 == 0x99) = true := by
  decide +kernel

/-- Vector M9 (R423, R250). -/
theorem test_ld_ixh_ixl :
    after1 [0xDD, 0x65] { State.reset with ix := 0xABCD } (fun t =>
       t.ix == 0xCDCD) = true := by
  decide +kernel

/-- Vector M11 (R422, R218). -/
theorem test_inc_ix_memory_overflows :
    after1 [0xDD, 0x34, 0x7F] { State.reset with ix := 0x4000, f := flags 0x00, mem := [(0x407F, 0x7F)] } (fun t =>
       t.f.toByte == 0x94 && t.mem.read 0x407F == 0x80) = true := by
  decide +kernel

/-- Vector M13 (R425). -/
theorem test_pass_through_nop_costs_4_more :
    after1 [0xDD, 0x00] State.reset (fun t =>
       t.pc == 0x0102 && t.tstates == 8) = true := by
  decide +kernel

/-- Vector M17 (R421, R290). -/
theorem test_ex_sp_ix :
    after1 [0xDD, 0xE3] { State.reset with
        ix := 0x1234, sp := 0x8000, mem := [(0x8000, 0xCD), (0x8001, 0xAB)] } (fun t =>
       t.ix == 0xABCD && t.mem.read 0x8001 == 0x12 && t.mem.read 0x8000 == 0x34) = true := by
  decide +kernel

/-- Vector M18 (R428, R331). -/
theorem test_rlc_ix_memory :
    after1 [0xDD, 0xCB, 0x01, 0x06] { State.reset with
        ix := 0x4000, f := flags 0x00, mem := [(0x4001, 0x80)] } (fun t =>
       t.f.toByte == 0x01 && t.mem.read 0x4001 == 0x01) = true := by
  decide +kernel

/-- Vector M19 (R428, R429). -/
theorem test_bit_ix_takes_y_and_x_from_the_address :
    after1 [0xDD, 0xCB, 0x01, 0x46] { State.reset with ix := 0x2800, f := flags 0x00 } (fun t =>
       t.f.toByte == 0x7C) = true := by
  decide +kernel

/-- Vector M20 (R428, R340). -/
theorem test_set_iy_memory :
    after1 [0xFD, 0xCB, 0xFF, 0xFE] { State.reset with iy := 0x4000 } (fun t =>
       t.mem.read 0x3FFF == 0x80) = true := by
  decide +kernel

/-! ### Pass-through and refused encodings -/

/-- 47_index_prefix.md R425: a pass-through byte adds 4 T-states to the unprefixed instruction. -/
theorem test_decode_pass_through : decode [0xFD, 0x78] = .instr .ld_A_B 4 [] ∧
    decode [0xDD, 0xC3, 0x34, 0x12] = .instr (.jp_nn 0x1234) 4 [] ∧
    decode [0xFD, 0xA7] = .instr .and_A 4 [] ∧ decode [0xDD, 0xF1] = .instr .pop_AF 4 [] := by decide +kernel

/-- Vectors M21 to M25, G16, H18 to H21: the faults with their bytes. -/
theorem test_decode_refused : decode [0xDD, 0xDD, 0x00] = .unknownOpcode [0xDD, 0xDD] ∧
    decode [0xFD, 0xED, 0x4A] = .unknownOpcode [0xFD, 0xED] ∧
    decode [0xDD, 0xCB, 0x05, 0x00] = .unknownOpcode [0xDD, 0xCB, 0x05, 0x00] ∧
    decode [0xDD, 0xCB, 0x05, 0x36] = .unknownOpcode [0xDD, 0xCB, 0x05, 0x36] ∧
    decode [0xCB, 0x36] = .unknownOpcode [0xCB, 0x36] ∧ decode [0xED, 0x71] = .unknownOpcode [0xED, 0x71] ∧
    decode [0xED, 0x4C] = .unknownOpcode [0xED, 0x4C] := by decide +kernel

theorem test_decode_truncated : decode [] = .truncated ∧ decode [0xC3, 0x00] = .truncated ∧
    decode [0xDD, 0xCB, 0x01] = .truncated := by decide +kernel

/-- `withFetchWord` puts JP 1234h where reset fetches, and the next step runs it. -/
theorem test_withFetchWord_runs : nextWith (fun t => t.pc == 0x1234 && t.tstates == 10)
    (step (State.reset.withFetchWord 24 0xC33412)) = true := by decide +kernel

/-- An indexed CB row, its displacement zero: SET 7,(IX+0), with IX = FFFFh. -/
theorem test_withFetchWord_indexed : nextWith (fun t => t.mem.read 0xFFFF == 0x80 && t.pc == 0x0004)
    (step (State.reset.withFetchWord 32 0xDDCB00FE)) = true := by decide +kernel

/-- 70_reset_and_hazards.md: the first step after reset runs the NOP that zero memory holds (log 4, 14). -/
theorem test_reset_first_step : nextWith (fun t => t.pc == 0x0001 && t.r == 0x01 && t.tstates == 4)
    (step State.reset) = true := by decide +kernel

/-- 70_reset_and_hazards.md R540's DD CB table, row 0 column 6 (15) and row 7 column E (12), where the parameter takes it
(log 13); the vectors M18 and M19 above have the costs where it does not. -/
theorem test_table_cost_of_indexed_cb :
    (let s := { State.reset with params := { Params.default with tableDDCB := true } }
     after1 [0xDD, 0xCB, 0x02, 0x06] s (fun t => t.tstates == 15) &&
       after1 [0xFD, 0xCB, 0x02, 0x7E] s (fun t => t.tstates == 12) &&
       after1 [0xCB, 0x06] s (fun t => t.tstates == 15)) = true := by decide +kernel

/-! ### Faults -/

/-- Vector I10: ED 77 at 0x0100 (there at 0x0200): the record, PC past the bytes, R counted twice, tstates not. -/
theorem test_unknown_opcode : faults1 [0xED, 0x77] State.reset (fun c =>
    c.fault == some (.unknownOpcode 0x0100 [0xED, 0x77]) && c.pc == 0x0102 && c.r == 0x02 && c.tstates == 0) =
      true := by decide +kernel

/-- Vector M24: SLL (IX+5), four bytes, two counts in R. -/
theorem test_unknown_indexed_opcode : faults1 [0xDD, 0xCB, 0x05, 0x36] State.reset (fun c =>
    c.fault == some (.unknownOpcode 0x0100 [0xDD, 0xCB, 0x05, 0x36]) && c.pc == 0x0104 && c.r == 0x02) = true := by
  decide +kernel

/-- Vector I14: LD (4000h),A over a memory adapter that fails at the fourth call, the write. -/
theorem test_adapter_error_on_write :
    faults1 [0x32, 0x00, 0x40] { State.reset with adapterErrs := [none, none, none, some 7] } (fun c =>
      c.fault == some (.adapterError 0x0100 .mem .writeByte (some 0x4000) 7) && c.pc == 0x0103 && c.r == 0x01 &&
        c.tstates == 0) = true := by decide +kernel

/-- Vector I15: a faulted core has no step. -/
theorem test_faulted_core_refused :
    step { State.reset with fault := some (.unknownOpcode 0 [0xED, 0x77]) } = .refused .coreFaulted := rfl

/-! ### Interrupts and halting (95_test_vectors.md section 3) -/

/-- The start of I1: mode 2, the table word 2000h at 0104h, a source with vector 04h. -/
def startI1 : State :=
  { State.reset with
    pc := 0x1234, sp := 0x8000, i := 0x01, im := .im2, iff1 := true, iff2 := true
    mem := [(0x0105, 0x20)], irqs := [some { handle := 1, vector := 0x04 }] }

/-- Vector I1. -/
theorem test_accept_mode_2 : nextWith (fun t =>
    t.pc == 0x2001 && t.sp == 0x7FFE && t.mem.read 0x7FFF == 0x12 && t.mem.read 0x7FFE == 0x34 && !t.iff1 && !t.iff2 &&
      t.inService == [1] && t.r == 0x02 && t.tstates == 23) (step startI1) = true := by decide +kernel

/-- The start of I2 and I3: a mode and a vector. -/
def startI2 (m : IMode) (v : Byte) : State :=
  { State.reset with
    pc := 0x1234, sp := 0x8000, im := m, iff1 := true, iff2 := true, irqs := [some { handle := 1, vector := v }] }

/-- Vector I2. -/
theorem test_accept_mode_1 : nextWith (fun t => t.pc == 0x0039 && t.sp == 0x7FFE && t.r == 0x02 && t.tstates == 17)
    (step (startI2 .im1 0x55)) = true := by decide +kernel

/-- Vector I3: RST 28h. -/
theorem test_accept_mode_0 : nextWith (fun t => t.pc == 0x0029 && t.sp == 0x7FFE && t.r == 0x02 && t.tstates == 17)
    (step (startI2 .im0 0xEF)) = true := by decide +kernel

/-- Vector I4: a vector that is no RST byte. -/
theorem test_accept_mode_0_refuses : faultWith (fun c =>
    c.fault == some (.unsupportedInterruptMode 0x1234 .im0 (some 0x00)) && !c.iff1 && !c.iff2 && c.sp == 0x8000 &&
      c.r == 0x00 && c.tstates == 0) (step (startI2 .im0 0x00)) = true := by decide +kernel

/-- The start of I5: only mode 2 supported. -/
def startI5 : State := { startI2 .im1 0x55 with params := { Params.default with im0 := false, im1 := false } }

/-- Vector I5: faulted before any state change, `acceptInterrupt()` not called. -/
theorem test_accept_unsupported : faultWith (fun c =>
    c.fault == some (.unsupportedInterruptMode 0x1234 .im1 none) && c.iff1 && c.iff2 && c.inService == [] &&
      c.trace == [.getPendingSource (some 1)]) (step startI5) = true := by decide +kernel

/-- Vector I6: IFF1 = 0, so the registry is not asked. -/
theorem test_no_check_when_disabled : nextWith (fun t => t.pc == 0x0101 && t.tstates == 4 && t.irqs.length == 1)
    (step (at0100 [0x00] { startI2 .im1 0x55 with iff1 := false })) = true := by decide +kernel

/-- Vector I7, its second step: a halted core idles. -/
theorem test_halted_step : nextWith (fun t => t.pc == 0x0101 && t.halted && t.r == 0x02 && t.tstates == 8)
    (step { State.reset with
      pc := 0x0101, halted := true, iff1 := true, iff2 := true, im := .im1, r := 0x01, tstates := 4 }) = true := by
  decide +kernel

/-- Vector I7, its third step: the acceptance ends the halt. -/
theorem test_halt_ends : nextWith (fun t =>
    t.pc == 0x0039 && !t.halted && t.mem.read 0x7FFE == 0x01 && t.r == 0x04 && t.tstates == 25)
    (step { startI2 .im1 0x55 with pc := 0x0101, halted := true, r := 0x02, tstates := 8 }) = true := by decide +kernel

/-- Vector I8, its second step: the step after EI makes no check. -/
theorem test_delay_after_ei : nextWith (fun t => t.pc == 0x0102 && !t.eiDiDelay && t.irqs.length == 1)
    (step { startI2 .im1 0x55 with pc := 0x0101, eiDiDelay := true }) = true := by decide +kernel

/-- Vector I9, its third step: RETI finishes the head of the in-service list. -/
theorem test_reti_finishes : after1 [0xED, 0x4D]
    { State.reset with sp := 0x7FFC, mem := [(0x7FFC, 0x02), (0x7FFD, 0x30)], inService := [2, 1] } (fun t =>
      t.pc == 0x3002 && t.inService == [1] && t.trace.head? == some (.interruptFinish 2)) = true := by decide +kernel

/-- Vector I16: reset clears a fault and keeps the memory. -/
theorem test_hostReset : let s := { startI1 with fault := some (.unknownOpcode 0 []), a := 0 }.hostReset
    s.fault = none ∧ s.a = 0xFF ∧ s.pc = 0x0000 ∧ s.mem = startI1.mem := by decide

/-- Memory keeps its canonical form: storing zero takes the cell out. -/
theorem test_memory_canonical : Memory.write [(0x4000, 0x12)] 0x4000 0x00 = [] ∧
    Memory.write [(0x4000, 0x12)] 0x3FFF 0x01 = [(0x3FFF, 0x01), (0x4000, 0x12)] := by decide

/-! ### Witnesses: a state and operands that meet an obligation's hypotheses, each clause's at a boundary -/

/-- A running state with memory, whose calls all succeed. -/
def ready : State :=
  { State.reset with
    a := 0x3C, b := 0x01, c := 0x00, d := 0x50, e := 0x00, h := 0x40, l := 0x00, sp := 0x0001, ix := 0x4000, iy := 0xFFFF
    mem := [(0x0001, 0x34), (0x0002, 0x12), (0x4000, 0x99)] }

/-- `ready` meets the hypotheses of every statement that asks for calls that succeed and a memory in its form. -/
theorem test_ready : ready.adapterErrs = [] ∧ ready.mem.wf = true := by decide

theorem test_witness_MemoryLoads : ready.adapterErrs = [] := rfl

theorem test_witness_MemoryStores : ready.adapterErrs = [] ∧ ready.mem.wf = true := test_ready

theorem test_witness_AluInstructions : ready.adapterErrs = [] := rfl

theorem test_witness_IncDecInstructions : ready.adapterErrs = [] ∧ ready.mem.wf = true := test_ready

theorem test_witness_NegAndDigitRotates : ready.adapterErrs = [] ∧ ready.mem.wf = true := test_ready

theorem test_witness_CallInstructions : ready.adapterErrs = [] ∧ ready.mem.wf = true ∧
    cond .nz { ready.f with z := false } = true ∧ cond .nz { ready.f with z := true } = false := by decide

theorem test_witness_ReturnInstructions : ready.adapterErrs = [] ∧ ready.inService = [] ∧
    ({ ready with inService := [2, 1] } : State).inService = 2 :: [1] := ⟨rfl, rfl, rfl⟩

theorem test_witness_PushAndPop : ready.adapterErrs = [] ∧ ready.mem.wf = true ∧
    (Rp2.bc ≠ .hl ∨ (Rp2.bc.isHL = true ∧ Ctx.ix ≠ .iy)) ∧ (Rp2.hl ≠ .hl ∨ (Rp2.hl.isHL = true ∧ Ctx.ix ≠ .iy)) := by
  decide

/-- PUSH AF then POP AF with SP at 0x0001, the pushed bytes on both sides of address 0. -/
theorem test_witness_PopUndoesPush : ready.mem.wf = true ∧
    ∃ t u, exec (mkPush .none .af) ready = .next t ∧ exec (mkPop .none .af) t = .next u :=
  ⟨by decide, _, _, rfl, rfl⟩

theorem test_witness_ExchangeInstructions : ready.adapterErrs = [] ∧ ready.mem.wf = true := test_ready

theorem test_witness_RotateInstructions : ready.adapterErrs = [] ∧ ready.mem.wf = true := test_ready

theorem test_witness_BitTestInstructions : ready.adapterErrs = [] ∧ Ctx.iy ≠ .none := ⟨rfl, by decide⟩

theorem test_witness_BitWriteInstructions : ready.adapterErrs = [] ∧ ready.mem.wf = true ∧ 7 < 8 := by decide

/-- With an answer listed and with none. -/
theorem test_witness_InOutInstructions : ready.adapterErrs = [] ∧ ready.ioIn = [] ∧
    ({ ready with ioIn := [0x5A] } : State).ioIn = 0x5A :: [] := ⟨rfl, rfl, rfl⟩

theorem test_witness_BlockCopyInstructions : ready.adapterErrs = [] ∧ ready.mem.wf = true := test_ready

theorem test_witness_BlockCompareInstructions : ready.adapterErrs = [] := rfl

theorem test_witness_BlockInOutInstructions : ready.adapterErrs = [] ∧ ready.mem.wf = true := test_ready

theorem test_witness_LogicOperations (op : AluOp) (h : op ∈ [AluOp.and, AluOp.or, AluOp.xor]) :
    op = .and ∨ op = .or ∨ op = .xor := by simpa using h

theorem test_witness_DaaIsDecimal : 99 < 100 ∧ 0 < 100 := by decide

/-- 99 + 99 + 1 and 0 - 99 - 1 by the rule's own tables: the two ends of its range. -/
theorem test_daa_ends : (daa (add8 (bcd 99) (bcd 99) true).1 (add8 (bcd 99) (bcd 99) true).2).1 = 0x99 ∧
    (daa (sub8 (bcd 0) (bcd 99) true).1 (sub8 (bcd 0) (bcd 99) true).2).1 = 0x00 := by decide

theorem test_witness_RegisterOperands : OtherReg8 .ix .h .ix .l ∧ OtherReg8 .ix .h .iy .h ∧
    OtherRp .ix .hl .none .hl ∧ OtherRp .none .sp .none .hl := by
  simp only [OtherReg8, OtherRp]
  decide

theorem test_witness_EncodeOfDecode : decode [0x78, 0x00] = .instr .ld_A_B 0 [0x00] ∧
    decode [0xDD, 0x78] = .instr .ld_A_B 4 [] := by decide +kernel

/-- 3F and 40 are the ends of two quarters of the opcode map. -/
theorem test_witness_PassThroughBytes :
    (0x3F : Byte) ∉ ([0xCB, 0xDD, 0xED, 0xFD, 0xEB, 0xD9] : List Byte) ∧ usesHL 0x3F = false ∧ usesHL 0x40 = false ∧
      usesHL 0xFF = false := by decide

theorem test_witness_DecoderAdmitsExactly : admitted [0xED, 0x3F, 0x00, 0x00] = false ∧
    admitted [0xFD, 0xCB, 0x00, 0x36] = false ∧ admitted [0xED, 0x40, 0x00, 0x00] = true := by decide

theorem test_reset_inv : State.reset.Inv := ⟨by decide, by decide, by decide⟩

/-- A state that meets the invariant, and steps: just after reset, and after EI with a source pending. -/
theorem test_witness_StepKeepsInv : State.reset.Inv ∧ (∃ t, step State.reset = .next t) ∧
    startI1.Inv ∧ (∃ t, step startI1 = .next t) :=
  ⟨test_reset_inv, exists_next (by decide +kernel), ⟨by decide, by decide, by decide⟩,
    exists_next (by decide +kernel)⟩

theorem test_witness_MemoryFollowsTheLog : ∃ t, step (at0100 [0xF5] ready) = .next t := exists_next (by decide +kernel)

theorem test_witness_StepClocks : ∃ t, step (at0100 [0xED, 0x4F] { ready with a := 0x80 }) = .next t ∧
    t.r.getLsbD 7 ≠ (at0100 [0xED, 0x4F] { ready with a := 0x80 }).r.getLsbD 7 := ⟨_, rfl, by decide⟩

/-- An acceptance and a halted step whose count wraps the low seven bits. -/
theorem test_witness_StepClocks_idle :
    (∃ t, interruptCheck { ready with r := 0xFF, iff1 := true, im := .im1, irqs := [some ⟨1, 0x00⟩] } .next = .next t) ∧
    (∃ t, haltOrExecute { ready with r := 0x7F, halted := true } = .next t ∧ t.r = 0x00) :=
  ⟨exists_next (by decide +kernel), _, rfl, by decide⟩

/-- An instruction other than LD R,A, with A's bit 7 set and R's clear and the count at its wrap. -/
theorem test_witness_StepClocks_other :
    (at0100 [0x78] { ready with a := 0x80, r := 0x7F }).halted = false ∧
    decode (bytesAt (at0100 [0x78] { ready with a := 0x80, r := 0x7F }).mem 0x0100 4) =
      .instr .ld_A_B 0 [0x00, 0x00, 0x00] ∧
    (∃ t, haltOrExecute (at0100 [0x78] { ready with a := 0x80, r := 0x7F }) = .next t) :=
  ⟨rfl, by decide +kernel, exists_next (by decide +kernel)⟩

/-- An instruction of four bytes that ends at 0xFFFF and one that a pass-through byte precedes. -/
theorem test_witness_StepRunsDecodedInstruction :
    ({ ready with pc := 0xFFFC, mem := [(0xFFFC, 0xFD), (0xFFFD, 0xCB), (0xFFFE, 0xFF), (0xFFFF, 0xFE)] } :
      State).adapterErrs = [] ∧
    decode (bytesAt [(0xFFFC, 0xFD), (0xFFFD, 0xCB), (0xFFFE, 0xFF), (0xFFFF, 0xFE)] 0xFFFC 4) =
      .instr (.set_7_mIYd 0xFF) 0 [] ∧
    decode (bytesAt (at0100 [0xDD, 0x78] ready).mem 0x0100 4) = .instr .ld_A_B 4 [0x00, 0x00] ∧
    (∃ t, exec .ld_A_B ((at0100 [0xDD, 0x78] ready).afterFetch 2) = .next t) :=
  ⟨rfl, by decide +kernel, by decide +kernel, _, rfl⟩

/-- A fetch that succeeds before a write that fails: PUSH AF, its fault passed on. -/
theorem test_witness_StepRunsDecodedInstruction_fault :
    (let s := at0100 [0xF5] { ready with adapterErrs := [none, some 1] }
     decode (bytesAt s.mem s.pc 4) = .instr .push_AF 0 [0x00, 0x00, 0x00] ∧
     (∀ e ∈ s.adapterErrs.take 1, e = none) ∧
     (∃ r, exec .push_AF { s.afterFetch 1 with adapterErrs := s.adapterErrs.drop 1 } = .fault r)) :=
  ⟨by decide +kernel, by decide, exists_fault (by decide +kernel)⟩

/-- Steps without a check: the mark up, or IFF1 clear. -/
theorem test_witness_noCheck : ({ ready with eiDiDelay := true } : State).noCheck ∧ ready.noCheck ∧
    ready.fault = none ∧ ready.halted = false := ⟨.inl rfl, .inr rfl, rfl, rfl⟩

/-- The last case: the four fetches of an indexed CB form succeed and a later error is left waiting. -/
theorem test_witness_UnknownOpcodeFaults : ready.adapterErrs = [] ∧
    decode (bytesAt (at0100 [0xED, 0xFF] ready).mem 0x0100 4) = .unknownOpcode [0xED, 0xFF] ∧
    decode (bytesAt (at0100 [0xDD, 0xCB, 0x00, 0x37] ready).mem 0x0100 4) =
      .unknownOpcode [0xDD, 0xCB, 0x00, 0x37] ∧
    (∀ e ∈ ([none, none, none, none, some 1] : List (Option Nat)).take 4, e = none) :=
  ⟨rfl, by decide +kernel, by decide +kernel, by decide⟩

theorem test_witness_FaultedCoreHasNoStep :
    ({ ready with fault := some (.unknownOpcode 0x0100 [0xED, 0x77]) } : State).fault ≠ none := by decide

/-- Halted with interrupts off, with them on and the registry answering none, and with them on and no answer listed. -/
theorem test_witness_HaltedStepIdles :
    (let s : State := { ready with halted := true }
     s.fault = none ∧ s.halted = true ∧ s.noCheck) ∧
    (let s : State := { ready with halted := true, iff1 := true, iff2 := true, irqs := [none] }
     s.fault = none ∧ s.halted = true ∧ s.eiDiDelay = false ∧ s.iff1 = true ∧ s.adapterErrs = [] ∧
       s.irqs = none :: []) ∧
    (let s : State := { ready with halted := true, iff1 := true, iff2 := true }
     s.fault = none ∧ s.halted = true ∧ s.eiDiDelay = false ∧ s.iff1 = true ∧ s.adapterErrs = [] ∧ s.irqs = []) :=
  ⟨⟨rfl, rfl, .inr rfl⟩, ⟨rfl, rfl, rfl, rfl, rfl, rfl⟩, rfl, rfl, rfl, rfl, rfl, rfl⟩

theorem test_witness_InterruptCheck :
    (let s : State := { ready with eiDiDelay := true, iff1 := true, iff2 := true }
     s.fault = none ∧ s.eiDiDelay = true) ∧
    (ready.fault = none ∧ ready.eiDiDelay = false ∧ ready.iff1 = false) ∧
    (let s : State := { ready with iff1 := true, iff2 := true, irqs := [none] }
     s.fault = none ∧ s.eiDiDelay = false ∧ s.iff1 = true ∧ s.adapterErrs = [] ∧ s.irqs = none :: []) ∧
    (let s : State := { ready with iff1 := true, iff2 := true }
     s.fault = none ∧ s.eiDiDelay = false ∧ s.iff1 = true ∧ s.adapterErrs = [] ∧ s.irqs = []) :=
  ⟨⟨rfl, rfl⟩, ⟨rfl, rfl, rfl⟩, ⟨rfl, rfl, rfl, rfl, rfl⟩, rfl, rfl, rfl, rfl, rfl⟩

theorem test_witness_AcceptInMode2 : startI1.Accepting { handle := 1, vector := 0x04 } [] ∧ startI1.im = .im2 :=
  ⟨⟨rfl, rfl, rfl, rfl, rfl, by decide⟩, rfl⟩

/-- Mode 1, and mode 0 with RST 0 and RST 38h, the ends of the RST bytes. -/
theorem test_witness_AcceptInModes0And1 :
    ((startI2 .im1 0x55).Accepting { handle := 1, vector := 0x55 } [] ∧ (startI2 .im1 0x55).im = .im1 ∧
      (startI2 .im1 0x55).params.im1 = true) ∧
    ((startI2 .im0 0xC7).Accepting { handle := 1, vector := 0xC7 } [] ∧ (startI2 .im0 0xC7).im = .im0 ∧
      (startI2 .im0 0xC7).params.im0 = true ∧ (0xC7 : Byte) &&& 0xC7 = 0xC7 ∧ (0xFF : Byte) &&& 0xC7 = 0xC7) :=
  ⟨⟨⟨rfl, rfl, rfl, rfl, rfl, rfl⟩, rfl, rfl⟩, ⟨rfl, rfl, rfl, rfl, rfl, rfl⟩, rfl, rfl, by decide, by decide⟩

theorem test_witness_AcceptanceFaults :
    (startI5.Accepting { handle := 1, vector := 0x55 } [] ∧ startI5.params.supports startI5.im = false) ∧
    ((startI2 .im0 0xC6).Accepting { handle := 1, vector := 0xC6 } [] ∧ (startI2 .im0 0xC6).im = .im0 ∧
      (startI2 .im0 0xC6).params.im0 = true ∧ (0xC6 : Byte) &&& 0xC7 ≠ 0xC7) :=
  ⟨⟨⟨rfl, rfl, rfl, rfl, rfl, rfl⟩, rfl⟩, ⟨rfl, rfl, rfl, rfl, rfl, rfl⟩, rfl, rfl, by decide⟩

theorem test_witness_FetchErrorFaults :
    (let s : State := { ready with adapterErrs := [some 3, none] }
     s.fault = none ∧ s.halted = false ∧ s.noCheck ∧ s.adapterErrs = some 3 :: [none]) :=
  ⟨rfl, rfl, .inr rfl, rfl⟩

/-- The last byte of SET 7,(IX+5), and the second byte of an encoding that is refused. -/
theorem test_witness_FetchErrorFaults_later :
    (let s := at0100 [0xDD, 0xCB, 0x05, 0xFE] { ready with adapterErrs := [none, none, none, some 3] }
     3 < s.fetchLength ∧ (∀ e ∈ s.adapterErrs.take 3, e = none) ∧ s.adapterErrs.drop 3 = some 3 :: []) ∧
    (let s := at0100 [0xED, 0x77] { ready with adapterErrs := [none, some 3] }
     1 < s.fetchLength ∧ (∀ e ∈ s.adapterErrs.take 1, e = none) ∧ s.adapterErrs.drop 1 = some 3 :: []) :=
  ⟨⟨by decide +kernel, by decide, rfl⟩, by decide +kernel, by decide, rfl⟩

/-- A fault at the second call, a next state with an error waiting past its two calls, and a step. -/
theorem test_witness_ExecFaultsOnlyByAdapter :
    (∃ f, exec .push_AF { ready with adapterErrs := [none, some 1] } = .fault f) ∧
    (∃ t, exec .push_AF { ready with adapterErrs := [none, none, some 1] } = .next t) ∧
    (∃ t, step (at0100 [0xF5] { ready with adapterErrs := [none, none, none, some 1] }) = .next t) :=
  ⟨exists_fault (by decide +kernel), exists_next (by decide +kernel), exists_next (by decide +kernel)⟩

theorem test_witness_EveryInstructionCompletes :
    ∀ e ∈ ({ ready with adapterErrs := [none, none] } : State).adapterErrs, e = none := by decide

/-- One instruction that writes each and one that writes none. -/
theorem test_witness_ControlStateWriters : ∃ t, exec .nop ready = .next t ∧ Instr.nop ≠ .ld_I_A ∧ Instr.nop ≠ .ld_R_A ∧
    Instr.nop ≠ .im_0 ∧ Instr.nop ≠ .im_1 ∧ Instr.nop ≠ .im_2 ∧ Instr.nop ≠ .di ∧ Instr.nop ≠ .ei ∧
    Instr.nop ≠ .retn ∧ Instr.nop ≠ .reti ∧ Instr.nop ≠ .halt := by
  refine ⟨_, rfl, ?_⟩
  decide +kernel

theorem test_witness_AlternateSetUntouched : Instr.ld_A_B ≠ .ex_AF_AFs ∧ Instr.ld_A_B ≠ .exx := by decide +kernel

theorem test_witness_IndexRegistersUntouched : (encode .ld_H_L).head? ≠ some 0xDD ∧
    (encode .ld_H_L).head? ≠ some 0xFD := by decide +kernel

end Sys2Proof.Tests
end

section
/-! SUPPORT. The control part of the state, and what an instruction that answers a next state does to it
(10_state.md R27 to R38, R47). The statements O20, O33 and O36 rest on `exec_executed`. -/

namespace Sys2Proof.Machine

/-- The fields that only the control instructions write, with the ones that no instruction writes. -/
structure Control where
  i : Byte
  r : Byte
  im : IMode
  iff1 : Bool
  iff2 : Bool
  eiDiDelay : Bool
  halted : Bool
  inService : List Nat
  params : Params
  irqs : List (Option Source)
  fault : Option FaultRecord
  start : Word

/-- The control part of a state. -/
def State.control (s : State) : Control where
  i := s.i
  r := s.r
  im := s.im
  iff1 := s.iff1
  iff2 := s.iff2
  eiDiDelay := s.eiDiDelay
  halted := s.halted
  inService := s.inService
  params := s.params
  irqs := s.irqs
  fault := s.fault
  start := s.start

/-- From `s` to `t` the control part stays, memory keeps its canonical form, and at least `n` T-states are added.
It speaks of no other field, so a proof of it for `t` is, by unfolding, one for `t` with any other field changed. -/
def KeepsControl (n : Nat) (s t : State) : Prop :=
  t.control = s.control ∧ (s.mem.wf = true → t.mem.wf = true) ∧ s.tstates + n ≤ t.tstates

/-- Every next state an outcome answers satisfies `Q`. -/
def Ends (Q : State → Prop) (o : Out) : Prop := ∀ t, o = .next t → Q t

theorem Ends.next {Q : State → Prop} {t : State} (h : Q t) : Ends Q (.next t) := by
  rintro _ ⟨⟩
  exact h

namespace KeepsControl

theorem refl (s : State) : KeepsControl 0 s s := ⟨rfl, id, le_rfl⟩

section
variable {s u : State} (hu : KeepsControl 0 s u)
include hu

theorem addT {m n : Nat} (h : m ≤ n) : KeepsControl m s (u.addT n) := by
  obtain ⟨hc, hm, ht⟩ := hu
  exact ⟨hc, hm, Nat.add_le_add ht h⟩

theorem store (a : Word) (v : Byte) : KeepsControl 0 s (u.store a v) := by
  obtain ⟨hc, hm, ht⟩ := hu
  exact ⟨hc, fun h => Memory.wf_write (hm h) a v, ht⟩

theorem setF (g : Flags) : KeepsControl 0 s (u.setF g) := hu

theorem setAF (p : Byte × Flags) : KeepsControl 0 s (u.setAF p) := hu

theorem setPC (v : Word) : KeepsControl 0 s (u.setPC v) := hu

theorem setBC (v : Word) : KeepsControl 0 s (u.setBC v) := hu

theorem setDE (v : Word) : KeepsControl 0 s (u.setDE v) := hu

theorem setHL (v : Word) : KeepsControl 0 s (u.setHL v) := hu

theorem drawXY (g : Flags) : KeepsControl 0 s (drawXY g u) := hu

theorem blockIoStep (up : Bool) : KeepsControl 0 s (blockIoStep up u) := hu

theorem setReg8 (x : Ctx) (n : Reg8) (v : Byte) : KeepsControl 0 s (setReg8 x n v u) := by
  cases n <;> cases x <;> exact hu

theorem setRegHL (x : Ctx) (v : Word) : KeepsControl 0 s (setRegHL x v u) := by
  cases x <;> exact hu

theorem setReg16 (x : Ctx) (p : Rp) (v : Word) : KeepsControl 0 s (setReg16 x p v u) := by
  cases p
  case hl => exact setRegHL hu x v
  all_goals exact hu

theorem setReg16af (x : Ctx) (p : Rp2) (v : Word) : KeepsControl 0 s (setReg16af x p v u) := by
  cases p
  case hl => exact setRegHL hu x v
  all_goals exact hu

theorem bitMemFlags (x : Ctx) (a : Word) (g : Flags) : KeepsControl 0 s (bitMemFlags x a g u) := by
  cases x <;> exact hu

theorem ioAnswer (port : Word) : KeepsControl 0 s (ioAnswer port u).2 := by
  unfold Machine.ioAnswer
  split <;> exact hu

end

/-! One rule per adapter operation: the call keeps the control part, so what is left is the rest of the step. -/

section
variable {s u : State} {Q : State → Prop} (hu : KeepsControl 0 s u)
include hu

theorem adapterCall {ad : Adapter} {call : CallName} {addr : Option Word} {failed : State → State} {k : State → Out}
    (hk : ∀ w, KeepsControl 0 s w → Ends Q (k w)) : Ends Q (adapterCall ad call addr failed u k) :=
  fun t ht => hk u.called hu t (adapterCall_next ht)

theorem memRead {a : Word} {k : Byte → State → Out} (hk : ∀ v w, KeepsControl 0 s w → Ends Q (k v w)) :
    Ends Q (memRead a u k) :=
  adapterCall hu fun _ hw => hk _ _ hw

theorem memWrite {a : Word} {v : Byte} {k : State → Out} (hk : ∀ w, KeepsControl 0 s w → Ends Q (k w)) :
    Ends Q (memWrite a v u k) :=
  adapterCall hu fun _ hw => hk _ (store hw a v)

theorem memRead2 {a : Word} {k : Word → State → Out} (hk : ∀ v w, KeepsControl 0 s w → Ends Q (k v w)) :
    Ends Q (memRead2 a u k) :=
  memRead hu fun _ _ hw => memRead hw fun _ _ hw => hk _ _ hw

theorem memWrite2 {a v : Word} {k : State → Out} (hk : ∀ w, KeepsControl 0 s w → Ends Q (k w)) :
    Ends Q (memWrite2 a v u k) :=
  memWrite hu fun _ hw => memWrite hw hk

theorem push16 {v : Word} {k : State → Out} (hk : ∀ w, KeepsControl 0 s w → Ends Q (k w)) :
    Ends Q (push16 v u k) := by
  refine fun t ht => hk _ ?_ t (push16_next ht)
  exact store (store hu (u.sp - 1) (hiByte v)) (u.sp - 1 - 1) (loByte v)

theorem pop16 {k : Word → State → Out} (hk : ∀ v w, KeepsControl 0 s w → Ends Q (k v w)) :
    Ends Q (pop16 u k) := by
  refine fun t ht => hk _ _ ?_ t (pop16_next ht)
  exact hu

theorem ioRead {port : Word} {k : Byte → State → Out} (hk : ∀ v w, KeepsControl 0 s w → Ends Q (k v w)) :
    Ends Q (ioRead port u k) :=
  adapterCall hu fun _ hw => hk _ _ (ioAnswer hw port)

theorem ioWrite {port : Word} {v : Byte} {k : State → Out} (hk : ∀ w, KeepsControl 0 s w → Ends Q (k w)) :
    Ends Q (ioWrite port v u k) :=
  adapterCall hu fun _ hw => hk _ hw

end

end KeepsControl

/-- What an instruction that writes no control field does: it keeps the control part and costs 4 or more. -/
abbrev Ordinary (s : State) : State → Prop := KeepsControl 4 s

theorem KeepsControl.ordinary {s u : State} (hu : KeepsControl 0 s u) {n : Nat} (h : 4 ≤ n) :
    Ends (Ordinary s) (.next (u.addT n)) :=
  .next (hu.addT h)

theorem four_le_memT (x : Ctx) {plain indexed : Nat} (hp : 4 ≤ plain) (hi : 4 ≤ indexed) :
    4 ≤ memT x plain indexed := by
  cases x
  · exact hp
  · exact hi
  · exact hi

theorem four_le_cbMemT (x : Ctx) (p : Params) {plain counted : Nat} (hp : 4 ≤ plain) (hc : 4 ≤ counted) :
    4 ≤ cbMemT x p plain counted := by
  obtain h | h := cbMemT_cases x p plain counted
  · rwa [h]
  · rwa [h]

/-! ### The shared operations -/

section
variable (s : State)

theorem opLdRR_ordinary (x : Ctx) (dst src : Reg8) : Ends (Ordinary s) (opLdRR x dst src s) :=
  ((KeepsControl.refl s).setReg8 x dst _).ordinary (by omega)

theorem opLdRM_ordinary (x : Ctx) (dst : Reg8) (d : Byte) : Ends (Ordinary s) (opLdRM x dst d s) :=
  (KeepsControl.refl s).memRead fun v _ hw => (hw.setReg8 .none dst v).ordinary (four_le_memT x (by decide) (by decide))

theorem opLdMR_ordinary (x : Ctx) (src : Reg8) (d : Byte) : Ends (Ordinary s) (opLdMR x src d s) :=
  (KeepsControl.refl s).memWrite fun _ hw => hw.ordinary (four_le_memT x (by decide) (by decide))

theorem opLdRN_ordinary (x : Ctx) (dst : Reg8) (n : Byte) : Ends (Ordinary s) (opLdRN x dst n s) :=
  ((KeepsControl.refl s).setReg8 x dst n).ordinary (by omega)

theorem opLdMN_ordinary (x : Ctx) (d n : Byte) : Ends (Ordinary s) (opLdMN x d n s) :=
  (KeepsControl.refl s).memWrite fun _ hw => hw.ordinary (four_le_memT x (by decide) (by decide))

theorem opStoreA_ordinary (addr : Word) {cost : Nat} (h : 4 ≤ cost) : Ends (Ordinary s) (opStoreA addr cost s) :=
  (KeepsControl.refl s).memWrite fun _ hw => hw.ordinary h

theorem opLoadA_ordinary (addr : Word) {cost : Nat} (h : 4 ≤ cost) : Ends (Ordinary s) (opLoadA addr cost s) :=
  (KeepsControl.refl s).memRead fun v w hw => KeepsControl.ordinary (u := { w with a := v }) hw h

theorem opLdRpNn_ordinary (x : Ctx) (p : Rp) (nn : Word) : Ends (Ordinary s) (opLdRpNn x p nn s) :=
  ((KeepsControl.refl s).setReg16 x p nn).ordinary (by omega)

theorem opStoreWord_ordinary (nn v : Word) {cost : Nat} (h : 4 ≤ cost) :
    Ends (Ordinary s) (opStoreWord nn v cost s) :=
  (KeepsControl.refl s).memWrite2 fun _ hw => hw.ordinary h

theorem opLoadWord_ordinary (x : Ctx) (p : Rp) (nn : Word) {cost : Nat} (h : 4 ≤ cost) :
    Ends (Ordinary s) (opLoadWord x p nn cost s) :=
  (KeepsControl.refl s).memRead2 fun v _ hw => (hw.setReg16 x p v).ordinary h

theorem opLdSpHl_ordinary (x : Ctx) : Ends (Ordinary s) (opLdSpHl x s) :=
  KeepsControl.ordinary (u := { s with sp := regHL x s }) (KeepsControl.refl s) (by omega)

theorem opAluR_ordinary (x : Ctx) (op : AluOp) (src : Reg8) : Ends (Ordinary s) (opAluR x op src s) :=
  ((KeepsControl.refl s).setAF _).ordinary (by omega)

theorem opAluM_ordinary (x : Ctx) (op : AluOp) (d : Byte) : Ends (Ordinary s) (opAluM x op d s) :=
  (KeepsControl.refl s).memRead fun _ _ hw =>
    (hw.setAF _).ordinary (four_le_memT x (by decide) (by decide))

theorem opAluN_ordinary (op : AluOp) (n : Byte) : Ends (Ordinary s) (opAluN op n s) :=
  ((KeepsControl.refl s).setAF _).ordinary (by decide)

theorem opStepR_ordinary (g : Byte → Flags → Byte × Flags) (x : Ctx) (n : Reg8) :
    Ends (Ordinary s) (opStepR g x n s) :=
  ((KeepsControl.refl s).setF _ |>.setReg8 x n _).ordinary (by omega)

theorem opStepM_ordinary (g : Byte → Flags → Byte × Flags) (x : Ctx) (d : Byte) :
    Ends (Ordinary s) (opStepM g x d s) :=
  (KeepsControl.refl s).memRead fun _ _ hw => (hw.setF _).memWrite fun _ hw =>
      hw.ordinary (four_le_memT x (by decide) (by decide))

theorem opNeg_ordinary : Ends (Ordinary s) (opNeg s) :=
  ((KeepsControl.refl s).setAF _).ordinary (by decide)

theorem opNibbles_ordinary (toMem toA : Byte → Byte → Byte) : Ends (Ordinary s) (opNibbles toMem toA s) :=
  (KeepsControl.refl s).memRead fun _ _ hw => hw.memWrite fun _ hw =>
    (hw.setAF _).ordinary (by decide)

theorem opAddHl_ordinary (x : Ctx) (p : Rp) : Ends (Ordinary s) (opAddHl x p s) :=
  ((KeepsControl.refl s).setF _ |>.setRegHL x _).ordinary (by omega)

theorem opIncRp_ordinary (x : Ctx) (p : Rp) : Ends (Ordinary s) (opIncRp x p s) :=
  ((KeepsControl.refl s).setReg16 x p _).ordinary (by omega)

theorem opDecRp_ordinary (x : Ctx) (p : Rp) : Ends (Ordinary s) (opDecRp x p s) :=
  ((KeepsControl.refl s).setReg16 x p _).ordinary (by omega)

theorem opAdcHl_ordinary (p : Rp) : Ends (Ordinary s) (opAdcHl p s) :=
  ((KeepsControl.refl s).setF _ |>.setHL _).ordinary (by decide)

theorem opSbcHl_ordinary (p : Rp) : Ends (Ordinary s) (opSbcHl p s) :=
  ((KeepsControl.refl s).setF _ |>.setHL _).ordinary (by decide)

theorem opAcc_ordinary (g : Byte → Flags → Byte × Flags) : Ends (Ordinary s) (opAcc g s) :=
  ((KeepsControl.refl s).setAF _).ordinary (by decide)

theorem opCpl_ordinary : Ends (Ordinary s) (opCpl s) :=
  ((KeepsControl.refl s).setAF _).ordinary (by decide)

theorem opScf_ordinary : Ends (Ordinary s) (opScf s) :=
  ((KeepsControl.refl s).drawXY _).ordinary (by decide)

theorem opCcf_ordinary : Ends (Ordinary s) (opCcf s) :=
  ((KeepsControl.refl s).drawXY _).ordinary (by decide)

theorem opNop_ordinary : Ends (Ordinary s) (opNop s) := (KeepsControl.refl s).ordinary (by decide)

theorem opLdASpecial_ordinary (v : Byte) : Ends (Ordinary s) (opLdASpecial v s) :=
  ((KeepsControl.refl s).setAF _).ordinary (by decide)

theorem opJr_ordinary (e : Byte) : Ends (Ordinary s) (opJr e s) :=
  ((KeepsControl.refl s).setPC _).ordinary (by decide)

theorem opJrCc_ordinary (cc : JrCond) (e : Byte) : Ends (Ordinary s) (opJrCc cc e s) := by
  unfold opJrCc
  split
  · exact opJr_ordinary s e
  · exact (KeepsControl.refl s).ordinary (by decide)

theorem opDjnz_ordinary (e : Byte) : Ends (Ordinary s) (opDjnz e s) := by
  unfold opDjnz
  split
  · exact KeepsControl.ordinary (u := { s with b := s.b - 1 }) (KeepsControl.refl s) (by decide)
  · exact KeepsControl.ordinary (u := State.setPC _ { s with b := s.b - 1 }) (KeepsControl.refl s) (by decide)

theorem opJp_ordinary (nn : Word) : Ends (Ordinary s) (opJp nn s) :=
  ((KeepsControl.refl s).setPC nn).ordinary (by decide)

theorem opJpCc_ordinary (cc : Cond) (nn : Word) : Ends (Ordinary s) (opJpCc cc nn s) := by
  unfold opJpCc
  split
  · exact opJp_ordinary s nn
  · exact (KeepsControl.refl s).ordinary (by decide)

theorem opJpHl_ordinary (x : Ctx) : Ends (Ordinary s) (opJpHl x s) :=
  ((KeepsControl.refl s).setPC _).ordinary (by omega)

theorem callTo_ordinary (target : Word) {cost : Nat} (h : 4 ≤ cost) : Ends (Ordinary s) (callTo target cost s) :=
  (KeepsControl.refl s).push16 fun _ hw => (hw.setPC target).ordinary h

theorem opCallCc_ordinary (cc : Cond) (nn : Word) : Ends (Ordinary s) (opCallCc cc nn s) := by
  unfold opCallCc
  split
  · exact callTo_ordinary s nn (by decide)
  · exact (KeepsControl.refl s).ordinary (by decide)

theorem returnTo_ordinary {cost : Nat} (h : 4 ≤ cost) : Ends (Ordinary s) (returnTo cost s) :=
  (KeepsControl.refl s).pop16 fun target _ hw => (hw.setPC target).ordinary h

theorem opRetCc_ordinary (cc : Cond) : Ends (Ordinary s) (opRetCc cc s) := by
  unfold opRetCc
  split
  · exact returnTo_ordinary s (by decide)
  · exact (KeepsControl.refl s).ordinary (by decide)

theorem opPush_ordinary (x : Ctx) (p : Rp2) : Ends (Ordinary s) (opPush x p s) :=
  (KeepsControl.refl s).push16 fun _ hw => hw.ordinary (by omega)

theorem opPop_ordinary (x : Ctx) (p : Rp2) : Ends (Ordinary s) (opPop x p s) :=
  (KeepsControl.refl s).pop16 fun v _ hw => (hw.setReg16af x p v).ordinary (by omega)

theorem opExAf_ordinary : Ends (Ordinary s) (opExAf s) :=
  .next ((KeepsControl.refl s).addT (le_refl 4))

theorem opExx_ordinary : Ends (Ordinary s) (opExx s) :=
  .next ((KeepsControl.refl s).addT (le_refl 4))

theorem opExDeHl_ordinary : Ends (Ordinary s) (opExDeHl s) :=
  .next ((KeepsControl.refl s).addT (le_refl 4))

theorem opExSp_ordinary (x : Ctx) : Ends (Ordinary s) (opExSp x s) :=
  (KeepsControl.refl s).memRead fun _ _ hw => hw.memRead fun _ _ hw => hw.memWrite fun _ hw => hw.memWrite fun _ hw =>
    (hw.setRegHL x _).ordinary (by omega)

theorem opRotR_ordinary (op : RotOp) (n : Reg8) : Ends (Ordinary s) (opRotR op n s) :=
  ((KeepsControl.refl s).setF _ |>.setReg8 .none n _).ordinary (by decide)

theorem opRotM_ordinary (x : Ctx) (op : RotOp) (d : Byte) : Ends (Ordinary s) (opRotM x op d s) :=
  (KeepsControl.refl s).memRead fun _ _ hw => (hw.setF _).memWrite fun _ hw =>
      hw.ordinary (four_le_cbMemT x s.params (by decide) (by decide))

theorem opBitR_ordinary (y : Idx8) (n : Reg8) : Ends (Ordinary s) (opBitR y n s) :=
  ((KeepsControl.refl s).setF _).ordinary (by decide)

theorem opBitM_ordinary (x : Ctx) (y : Idx8) (d : Byte) : Ends (Ordinary s) (opBitM x y d s) :=
  (KeepsControl.refl s).memRead fun _ _ hw =>
    (hw.bitMemFlags x (ea x d s) _).ordinary (four_le_cbMemT x s.params (by decide) (by decide))

theorem opPutBitR_ordinary (g : Idx8 → Byte → Byte) (y : Idx8) (n : Reg8) :
    Ends (Ordinary s) (opPutBitR g y n s) :=
  ((KeepsControl.refl s).setReg8 .none n _).ordinary (by decide)

theorem opPutBitM_ordinary (g : Idx8 → Byte → Byte) (x : Ctx) (y : Idx8) (d : Byte) :
    Ends (Ordinary s) (opPutBitM g x y d s) :=
  (KeepsControl.refl s).memRead fun _ _ hw => hw.memWrite fun _ hw =>
    hw.ordinary (four_le_cbMemT x s.params (by decide) (by decide))

theorem opInAN_ordinary (n : Byte) : Ends (Ordinary s) (opInAN n s) :=
  (KeepsControl.refl s).ioRead fun v w hw => KeepsControl.ordinary (u := { w with a := v }) hw (by decide)

theorem opOutNA_ordinary (n : Byte) : Ends (Ordinary s) (opOutNA n s) :=
  (KeepsControl.refl s).ioWrite fun _ hw => hw.ordinary (by decide)

theorem opInR_ordinary (n : Reg8) : Ends (Ordinary s) (opInR n s) :=
  (KeepsControl.refl s).ioRead fun v _ hw => (hw.setF _ |>.setReg8 .none n v).ordinary (by decide)

theorem opOutR_ordinary (n : Reg8) : Ends (Ordinary s) (opOutR n s) :=
  (KeepsControl.refl s).ioWrite fun _ hw => hw.ordinary (by decide)

variable {s} in
theorem KeepsControl.repeatEnd {u : State} (hu : KeepsControl 0 s u) (again : Bool) :
    Ends (Ordinary s) (repeatEnd again u) := by
  cases again
  · exact hu.ordinary (by decide)
  · exact KeepsControl.ordinary (u := { u with pc := u.pc - 2 }) hu (by decide)

theorem opCopy_ordinary (up rep : Bool) : Ends (Ordinary s) (opCopy up rep s) :=
  (KeepsControl.refl s).memRead fun _ _ hw => hw.memWrite fun _ hw =>
    (hw.setHL _ |>.setDE _ |>.setBC _ |>.setF _).repeatEnd _

theorem opCompare_ordinary (up rep : Bool) : Ends (Ordinary s) (opCompare up rep s) :=
  (KeepsControl.refl s).memRead fun _ _ hw =>
    (hw.setHL _ |>.setBC _ |>.setF _).repeatEnd _

theorem opInput_ordinary (up rep : Bool) : Ends (Ordinary s) (opInput up rep s) :=
  (KeepsControl.refl s).ioRead fun _ _ hw => hw.memWrite fun _ hw =>
    (hw.blockIoStep up).repeatEnd _

theorem opOutput_ordinary (up rep : Bool) : Ends (Ordinary s) (opOutput up rep s) :=
  (KeepsControl.refl s).memRead fun _ _ hw => hw.ioWrite fun _ hw =>
    (hw.blockIoStep up).repeatEnd _

end

/-- The control part an instruction may leave, from `s` on: the one it found, or what one of the control instructions
writes (R253, R292, R293, R361 to R365). -/
inductive ControlWrite (s : State) : Instr → Control → Prop
  | none (i : Instr) : ControlWrite s i s.control
  | halt : ControlWrite s .halt { s.control with halted := true }
  | di : ControlWrite s .di { s.control with iff1 := false, iff2 := false, eiDiDelay := true }
  | ei : ControlWrite s .ei { s.control with iff1 := true, iff2 := true, eiDiDelay := true }
  | im (m : IMode) : ControlWrite s (mkIm m) { s.control with im := m }
  | ldIA : ControlWrite s .ld_I_A { s.control with i := s.a }
  | ldRA : ControlWrite s .ld_R_A { s.control with r := s.a }
  | retn : ControlWrite s .retn { s.control with iff1 := s.iff2 }
  | reti : ControlWrite s .reti { s.control with iff1 := s.iff2, inService := s.inService.tail }

/-- What any instruction that answers a next state has done. -/
structure Executed (i : Instr) (s t : State) : Prop where
  control : ControlWrite s i t.control
  memWf : s.mem.wf = true → t.mem.wf = true
  tstates : s.tstates + 4 ≤ t.tstates

theorem Ends.executed {i : Instr} {s : State} {o : Out} (h : Ends (Ordinary s) o) : Ends (Executed i s) o := by
  intro t ht
  obtain ⟨hc, hm, hn⟩ := h t ht
  exact ⟨hc ▸ .none i, hm, hn⟩

theorem opRetn_executed (s : State) : Ends (Executed .retn s) (opRetn s) := by
  intro t h
  cases returnFromInterrupt_next h
  exact ⟨.retn, id, Nat.add_le_add_left (by decide) s.tstates⟩

theorem finishInService_next {s t : State} {k : State → Out} (h : finishInService s k = .next t) :
    ∃ w : State, k w = .next t ∧ w.control = { s.control with inService := s.inService.tail } ∧
      w.mem = s.mem ∧ w.tstates = s.tstates := by
  rcases hs : s.inService with _ | ⟨handle, rest⟩
  · rw [finishInService_nil hs] at h
    exact ⟨s, h, by rw [List.tail_nil, ← hs]; rfl, rfl, rfl⟩
  · rw [finishInService_cons hs] at h
    exact ⟨_, callInterruptFinish_next h, rfl, rfl, rfl⟩

theorem opReti_executed (s : State) : Ends (Executed .reti s) (opReti s) := by
  intro t h
  obtain ⟨w, hw, hc, hm, ht⟩ := finishInService_next (returnFromInterrupt_next h)
  cases hw
  refine ⟨?_, fun h => hm ▸ h, ?_⟩
  · exact (show (State.addT 14 w).control = _ from hc) ▸ .reti
  · exact ht ▸ Nat.add_le_add_left (by decide : 4 ≤ 14) s.tstates

/-- What executing an instruction can do, said once for all of them, one case per family. -/
theorem exec_executed (i : Instr) (s : State) : Ends (Executed i s) (exec i s) := by
  induction i using instr_families with
  | hNop => exact (opNop_ordinary s).executed
  | hHalt => exact .next ⟨.halt, id, le_rfl⟩
  | hDi => exact .next ⟨.di, id, le_rfl⟩
  | hEi => exact .next ⟨.ei, id, le_rfl⟩
  | hIm m =>
    rw [exec_mkIm]
    exact .next ⟨.im m, id, Nat.add_le_add_left (by decide) s.tstates⟩
  | hLdIA => exact .next ⟨.ldIA, id, Nat.add_le_add_left (by decide) s.tstates⟩
  | hLdRA => exact .next ⟨.ldRA, id, Nat.add_le_add_left (by decide) s.tstates⟩
  | hLdAI => exact (opLdASpecial_ordinary s s.i).executed
  | hLdAR => exact (opLdASpecial_ordinary s s.r).executed
  | hLdRR x dst src => exact exec_mkLdRR x dst src s ▸ (opLdRR_ordinary s x dst src).executed
  | hLdRM x r d => exact exec_mkLdRM x r d s ▸ (opLdRM_ordinary s x r d).executed
  | hLdMR x r d => exact exec_mkLdMR x r d s ▸ (opLdMR_ordinary s x r d).executed
  | hLdRN x r n => exact exec_mkLdRN x r n s ▸ (opLdRN_ordinary s x r n).executed
  | hLdMN x d n => exact exec_mkLdMN x d n s ▸ (opLdMN_ordinary s x d n).executed
  | hLdBcA => exact (opStoreA_ordinary s s.bc (by decide)).executed
  | hLdDeA => exact (opStoreA_ordinary s s.de (by decide)).executed
  | hLdNnA nn => exact (opStoreA_ordinary s nn (by decide)).executed
  | hLdABc => exact (opLoadA_ordinary s s.bc (by decide)).executed
  | hLdADe => exact (opLoadA_ordinary s s.de (by decide)).executed
  | hLdANn nn => exact (opLoadA_ordinary s nn (by decide)).executed
  | hLdRpNn x p nn => exact exec_mkLdRpNn x p nn s ▸ (opLdRpNn_ordinary s x p nn).executed
  | hLdNnHl x nn => exact exec_mkLdNnHl x nn s ▸ (opStoreWord_ordinary s nn _ (by omega)).executed
  | hLdHlNn x nn => exact exec_mkLdHlNn x nn s ▸ (opLoadWord_ordinary s x .hl nn (by omega)).executed
  | hLdNnRp p nn => exact exec_mkLdNnRp p nn s ▸ (opStoreWord_ordinary s nn _ (by decide)).executed
  | hLdRpNnMem p nn => exact exec_mkLdRpNnMem p nn s ▸ (opLoadWord_ordinary s .none p nn (by decide)).executed
  | hLdSpHl x => exact exec_mkLdSpHl x s ▸ (opLdSpHl_ordinary s x).executed
  | hAluR x op r => exact exec_mkAluR x op r s ▸ (opAluR_ordinary s x op r).executed
  | hAluM x op d => exact exec_mkAluM x op d s ▸ (opAluM_ordinary s x op d).executed
  | hAluN op n => exact exec_mkAluN op n s ▸ (opAluN_ordinary s op n).executed
  | hIncR x r => exact exec_mkIncR x r s ▸ (opStepR_ordinary s inc8 x r).executed
  | hDecR x r => exact exec_mkDecR x r s ▸ (opStepR_ordinary s dec8 x r).executed
  | hIncM x d => exact exec_mkIncM x d s ▸ (opStepM_ordinary s inc8 x d).executed
  | hDecM x d => exact exec_mkDecM x d s ▸ (opStepM_ordinary s dec8 x d).executed
  | hNeg => exact (opNeg_ordinary s).executed
  | hRrd => exact (opNibbles_ordinary s rrdMem rrdA).executed
  | hRld => exact (opNibbles_ordinary s rldMem rldA).executed
  | hAddHl x p => exact exec_mkAddHl x p s ▸ (opAddHl_ordinary s x p).executed
  | hIncRp x p => exact exec_mkIncRp x p s ▸ (opIncRp_ordinary s x p).executed
  | hDecRp x p => exact exec_mkDecRp x p s ▸ (opDecRp_ordinary s x p).executed
  | hAdcHl p => exact exec_mkAdcHl p s ▸ (opAdcHl_ordinary s p).executed
  | hSbcHl p => exact exec_mkSbcHl p s ▸ (opSbcHl_ordinary s p).executed
  | hRlca => exact (opAcc_ordinary s rlca).executed
  | hRrca => exact (opAcc_ordinary s rrca).executed
  | hRla => exact (opAcc_ordinary s rla).executed
  | hRra => exact (opAcc_ordinary s rra).executed
  | hDaa => exact (opAcc_ordinary s daa).executed
  | hCpl => exact (opCpl_ordinary s).executed
  | hScf => exact (opScf_ordinary s).executed
  | hCcf => exact (opCcf_ordinary s).executed
  | hJr e => exact (opJr_ordinary s e).executed
  | hJrCc cc e => exact exec_mkJrCc cc e s ▸ (opJrCc_ordinary s cc e).executed
  | hDjnz e => exact (opDjnz_ordinary s e).executed
  | hJp nn => exact (opJp_ordinary s nn).executed
  | hJpCc cc nn => exact exec_mkJpCc cc nn s ▸ (opJpCc_ordinary s cc nn).executed
  | hJpHl x => exact exec_mkJpHl x s ▸ (opJpHl_ordinary s x).executed
  | hCall nn => exact (callTo_ordinary s nn (by decide)).executed
  | hCallCc cc nn => exact exec_mkCallCc cc nn s ▸ (opCallCc_ordinary s cc nn).executed
  | hRst y => exact exec_mkRst y s ▸ (callTo_ordinary s _ (by decide)).executed
  | hRet => exact (returnTo_ordinary s (by decide)).executed
  | hRetCc cc => exact exec_mkRetCc cc s ▸ (opRetCc_ordinary s cc).executed
  | hRetn => exact opRetn_executed s
  | hReti => exact opReti_executed s
  | hPush x p => exact exec_mkPush x p s ▸ (opPush_ordinary s x p).executed
  | hPop x p => exact exec_mkPop x p s ▸ (opPop_ordinary s x p).executed
  | hExAf => exact (opExAf_ordinary s).executed
  | hExx => exact (opExx_ordinary s).executed
  | hExDeHl => exact (opExDeHl_ordinary s).executed
  | hExSp x => exact exec_mkExSp x s ▸ (opExSp_ordinary s x).executed
  | hRotR op r => exact exec_mkRotR op r s ▸ (opRotR_ordinary s op r).executed
  | hRotM x op d => exact exec_mkRotM x op d s ▸ (opRotM_ordinary s x op d).executed
  | hBitR y r => exact exec_mkBitR y r s ▸ (opBitR_ordinary s y r).executed
  | hBitM x y d => exact exec_mkBitM x y d s ▸ (opBitM_ordinary s x y d).executed
  | hResR y r => exact exec_mkResR y r s ▸ (opPutBitR_ordinary s resBit y r).executed
  | hResM x y d => exact exec_mkResM x y d s ▸ (opPutBitM_ordinary s resBit x y d).executed
  | hSetR y r => exact exec_mkSetR y r s ▸ (opPutBitR_ordinary s setBit y r).executed
  | hSetM x y d => exact exec_mkSetM x y d s ▸ (opPutBitM_ordinary s setBit x y d).executed
  | hInAN n => exact (opInAN_ordinary s n).executed
  | hOutNA n => exact (opOutNA_ordinary s n).executed
  | hInR r => exact exec_mkInR r s ▸ (opInR_ordinary s r).executed
  | hOutR r => exact exec_mkOutR r s ▸ (opOutR_ordinary s r).executed
  | hLdi | hLdd | hLdir | hLddr => exact (opCopy_ordinary s _ _).executed
  | hCpi | hCpd | hCpir | hCpdr => exact (opCompare_ordinary s _ _).executed
  | hIni | hInd | hInir | hIndr => exact (opInput_ordinary s _ _).executed
  | hOuti | hOutd | hOtir | hOtdr => exact (opOutput_ordinary s _ _).executed

/-- Which control fields each instruction may write (R27, R28, R33 to R35, R37, R47), read off `ControlWrite`. -/
theorem ControlWrite.writers {s : State} {i : Instr} {u : Control} (h : ControlWrite s i u) :
    (i ≠ .ld_I_A → u.i = s.i) ∧ (i ≠ .ld_R_A → u.r = s.r) ∧
    (i ≠ .im_0 → i ≠ .im_1 → i ≠ .im_2 → u.im = s.im) ∧
    (i ≠ .di → i ≠ .ei → u.iff2 = s.iff2 ∧ u.eiDiDelay = s.eiDiDelay) ∧
    (i ≠ .di → i ≠ .ei → i ≠ .retn → i ≠ .reti → u.iff1 = s.iff1) ∧
    (i ≠ .halt → u.halted = s.halted) ∧ (i ≠ .reti → u.inService = s.inService) ∧
    u.params = s.params ∧ u.irqs = s.irqs ∧ u.fault = s.fault ∧ u.start = s.start := by
  cases h with
  | im m => cases m <;> simp [State.control, mkIm]
  | _ => simp [State.control]

/-- Settles O33, from what every instruction can do. -/
theorem controlStateWriters : Obligations.ControlStateWriters :=
  fun i s t h => (exec_executed i s t h).control.writers

end Sys2Proof.Machine
end

section
/-! SUPPORT. What one step can do to the invariant, the parameters, the fault record, R and the clock: one relation,
`Advances`, for every part of a step that is not the write of R by LD R,A (10_state.md R28, R33 to R38, R46). -/

namespace Sys2Proof.Machine

/-- From `s` to `t` nothing a step keeps is lost, R keeps its bit 7, and at least `n` T-states are added. -/
structure Advances (n : Nat) (s t : State) : Prop where
  params : t.params = s.params
  fault : t.fault = s.fault
  memWf : s.mem.wf = true → t.mem.wf = true
  iffOrder : (s.iff1 = true → s.iff2 = true) → t.iff1 = true → t.iff2 = true
  rBit7 : t.r.getLsbD 7 = s.r.getLsbD 7
  tstates : s.tstates + n ≤ t.tstates

theorem Advances.trans {m n : Nat} {s t u : State} (h : Advances m s t) (h' : Advances n t u) :
    Advances n s u where
  params := h'.params.trans h.params
  fault := h'.fault.trans h.fault
  memWf := h'.memWf ∘ h.memWf
  iffOrder := h'.iffOrder ∘ h.iffOrder
  rBit7 := h'.rBit7.trans h.rBit7
  tstates := by
    have h1 := h.tstates
    have h2 := h'.tstates
    omega

/-! ### The count of R -/

/-- R36: bit 7 of R stays when R is counted. -/
theorem nextR_bit7 (r : Byte) : (nextR r).getLsbD 7 = r.getLsbD 7 := by
  simp [nextR]

/-- R36: the low seven bits of R count modulo 128. -/
theorem nextR_toNat_mod (r : Byte) : (nextR r).toNat % 128 = (r.toNat + 1) % 128 := by
  revert r
  decide

/-! ### The parts of a step -/

/-- A halted step counts R and adds 4 T-states (60_exceptions.md R500). -/
theorem advances_haltedStep (s : State) : Advances 4 s (State.addT 4 s.incR) :=
  ⟨rfl, rfl, id, id, nextR_bit7 s.r, le_rfl⟩

/-- What a fetch that goes on has done: nothing a step keeps is lost, and the mark of EI or DI and `halted` stay. -/
structure FetchedTo (s u : State) : Prop where
  advances : Advances 0 s u
  eiDiDelay : u.eiDiDelay = s.eiDiDelay
  halted : u.halted = s.halted

theorem FetchedTo.refl (s : State) : FetchedTo s s := ⟨⟨rfl, rfl, id, id, rfl, le_rfl⟩, rfl, rfl⟩

theorem FetchedTo.trans {s u v : State} (h : FetchedTo s u) (h' : FetchedTo u v) : FetchedTo s v :=
  ⟨h.advances.trans h'.advances, h'.eiDiDelay.trans h.eiDiDelay, h'.halted.trans h.halted⟩

/-- The fetch of one byte counts R or leaves it. -/
theorem fetchedTo_fetched (m1 : Bool) (ev : BusCall) (s : State) :
    FetchedTo s ((s.called.logged ev).fetched m1) := by
  cases m1
  · exact ⟨⟨rfl, rfl, id, id, rfl, le_rfl⟩, rfl, rfl⟩
  · exact ⟨⟨rfl, rfl, id, id, nextR_bit7 s.r, le_rfl⟩, rfl, rfl⟩

/-- A fetch that goes on runs an instruction, and it is the one the bytes at PC decode to: the fetch and the decoder
walk the same tree (30_encoding.md R101). -/
theorem fetchTree_runs {d : Dec} {passT : Nat} {bytes : List Byte} {s t : State} {k : Instr → Nat → State → Out}
    (h : fetchTree d passT bytes s k = .next t) :
    ∃ i q u, k i q u = .next t ∧ FetchedTo s u ∧
      ∀ n j p rest, d.run passT bytes (bytesAt s.mem s.pc n) = .instr j p rest → i = j := by
  induction d generalizing passT bytes s with
  | done i =>
    refine ⟨i, passT, s, h, .refl s, fun n j p rest hrun => ?_⟩
    cases hrun
    rfl
  | unknown => cases h
  | pass next ih => exact ih h
  | more m1 next ih =>
    obtain ⟨i, q, u, hk, hu, hrun⟩ := ih _ (memRead_next h)
    refine ⟨i, q, u, hk, (fetchedTo_fetched ..).trans hu, fun n j p rest hn => ?_⟩
    cases n with
    | zero => cases hn
    | succ n =>
      refine hrun n j p rest ?_
      rw [State.fetched_eq]
      exact hn

/-- The rest of a step after the interrupt check: a halted core idles, any other fetches and runs an instruction, the
one the bytes at PC decode to. -/
theorem haltOrExecute_runs {s t : State} (h : haltOrExecute s = .next t) :
    (s.halted = true ∧ t = State.addT 4 s.incR) ∨
    (s.halted = false ∧ ∃ i q u v, FetchedTo s u ∧ exec i u = .next v ∧ t = v.addT q ∧
      ∀ j p rest, decode (bytesAt s.mem s.pc 4) = .instr j p rest → i = j) := by
  obtain hh | ⟨hh, he⟩ := haltOrExecute_next h
  · exact .inl hh
  · obtain ⟨i, q, u, hk, hu, hrun⟩ := fetchTree_runs he
    obtain ⟨v, hv, ht⟩ := runInstr_next hk
    have hstart : FetchedTo s { s with start := s.pc } := ⟨⟨rfl, rfl, id, id, rfl, le_rfl⟩, rfl, rfl⟩
    exact .inr ⟨hh, i, q, u, v, hstart.trans hu, hv, ht, hrun 4⟩

/-- An acceptance that goes on clears IFF1 and IFF2, counts R once and pushes PC (60_exceptions.md R493). -/
theorem acceptInterrupt_advances {src : Source} {s t : State} {k : State → Out}
    (h : acceptInterrupt src s k = .next t) :
    ∃ u, k u = .next t ∧ Advances 0 s u ∧ u.eiDiDelay = s.eiDiDelay := by
  obtain ⟨u, hu, ht, hf⟩ := acceptInterrupt_next h
  have hle : s.tstates ≤ u.tstates := by omega
  refine ⟨u, hu, ?_, by rw [hf]⟩
  rw [hf]
  exact {
    params := rfl
    fault := rfl
    memWf := fun hm => Memory.wf_write (Memory.wf_write hm _ _) _ _
    iffOrder := fun _ => id
    rBit7 := nextR_bit7 s.r
    tstates := hle }

/-- The interrupt check that goes on, with or without an acceptance, leaves no mark of EI or DI and loses nothing a
step keeps (60_exceptions.md R491 to R493, 10_state.md R35). -/
theorem interruptCheck_advances {s t : State} {k : State → Out} (h : interruptCheck s k = .next t) :
    ∃ u, k u = .next t ∧ Advances 0 s u ∧ u.eiDiDelay = false := by
  obtain ⟨-, hk⟩ | ⟨hd, -, hk⟩ | ⟨hd, -, o, s1, hp, hk⟩ := interruptCheck_next h
  · exact ⟨_, hk, ⟨rfl, rfl, id, id, rfl, le_rfl⟩, rfl⟩
  · exact ⟨s, hk, ⟨rfl, rfl, id, id, rfl, le_rfl⟩, hd⟩
  · -- the registry was asked: one call and one answer are used up
    have hs1 : s1 = { s with adapterErrs := s1.adapterErrs, irqs := s1.irqs } := by
      unfold pendingAnswer at hp
      split at hp <;> cases hp <;> rfl
    rw [hs1] at hk
    cases o with
    | none => exact ⟨_, hk, ⟨rfl, rfl, id, id, rfl, le_rfl⟩, hd⟩
    | some src =>
      obtain ⟨u, hu, ha, hm⟩ := acceptInterrupt_advances hk
      have hasked : Advances 0 s (State.logged (.getPendingSource (some src.handle))
        { s with adapterErrs := s1.adapterErrs, irqs := s1.irqs }) := ⟨rfl, rfl, id, id, rfl, le_rfl⟩
      exact ⟨u, hu, hasked.trans ha, hm.trans hd⟩

/-- A step that goes on is an interrupt check and, from a state without a mark, the rest (30_encoding.md R90). -/
theorem step_advances {s t : State} (h : step s = .next t) :
    s.fault = none ∧ ∃ u, haltOrExecute u = .next t ∧ Advances 0 s u ∧ u.eiDiDelay = false := by
  obtain ⟨hf, hb⟩ := step_next h
  obtain ⟨u, hu, ha, hd⟩ := interruptCheck_advances hb
  have hstart : Advances 0 s { s with start := s.pc } := ⟨rfl, rfl, id, id, rfl, le_rfl⟩
  exact ⟨hf, u, hu, hstart.trans ha, hd⟩

/-! ### The clocks -/

/-- Executing keeps R bit 7, but for LD R,A. -/
theorem exec_rBit7 {i : Instr} {s t : State} (h : exec i s = .next t) (hi : i ≠ .ld_R_A) :
    t.r.getLsbD 7 = s.r.getLsbD 7 := by
  obtain ⟨-, hr, -⟩ := (exec_executed i s t h).control.writers
  rw [show t.r = s.r from hr hi]

/-- The rest of a step keeps R bit 7 where no LD R,A is run, and ends with R equal to A where one is. -/
theorem haltOrExecute_r {s t : State} (h : haltOrExecute s = .next t) :
    t.r.getLsbD 7 = s.r.getLsbD 7 ∨
    (s.halted = false ∧ t.r = t.a ∧
      ∀ i p rest, decode (bytesAt s.mem s.pc 4) = .instr i p rest → i = .ld_R_A) := by
  obtain ⟨-, rfl⟩ | ⟨hh, i, q, u, v, hu, hv, rfl, hdec⟩ := haltOrExecute_runs h
  · exact .inl (nextR_bit7 s.r)
  · by_cases hi : i = .ld_R_A
    · subst hi
      cases hv
      exact .inr ⟨hh, rfl, fun j p rest hj => (hdec j p rest hj).symm⟩
    · exact .inl ((exec_rBit7 hv hi).trans hu.advances.rBit7)

/-- R38: the rest of a step costs 4 T-states or more, halted or not. -/
theorem haltOrExecute_tstates {s t : State} (h : haltOrExecute s = .next t) : s.tstates + 4 ≤ t.tstates := by
  obtain ⟨-, rfl⟩ | ⟨-, i, q, u, v, hu, hv, rfl, -⟩ := haltOrExecute_runs h
  · exact le_rfl
  · have h1 := hu.advances.tstates
    have h2 := (exec_executed i u v hv).tstates
    rw [State.addT_tstates]
    omega

/-- Settles O36: the interrupt check keeps R bit 7, and the rest of the step keeps it or runs LD R,A. -/
theorem stepClocks : Obligations.StepClocks := by
  refine ⟨fun s t h => ?_, fun s t k h => ?_, fun s t hh h => ?_, fun s t i p rest hh hdec hi h => ?_,
    fun r => ⟨nextR_bit7 r, nextR_toNat_mod r⟩⟩
  · obtain ⟨-, u, hu, ha, -⟩ := step_advances h
    refine ⟨(Nat.add_le_add_right ha.tstates 4).trans (haltOrExecute_tstates hu), fun hne => ?_⟩
    obtain hr | ⟨-, hra, -⟩ := haltOrExecute_r hu
    · exact absurd (hr.trans ha.rBit7) hne
    · exact hra
  · obtain ⟨u, hu, ha, -⟩ := interruptCheck_advances h
    exact ⟨u, hu, ha.rBit7⟩
  · obtain hr | ⟨hrun, -, -⟩ := haltOrExecute_r h
    · exact hr
    · rw [hh] at hrun
      cases hrun
  · obtain hr | ⟨-, -, hld⟩ := haltOrExecute_r h
    · exact hr
    · exact absurd (hld i p rest hdec) hi

/-! ### The invariant -/

/-- Executing keeps the order of IFF1 and IFF2: each writer writes both, or copies IFF2 to IFF1 (R33). -/
theorem ControlWrite.iffOrder {s : State} {i : Instr} {u : Control} (h : ControlWrite s i u)
    (hs : s.iff1 = true → s.iff2 = true) : u.iff1 = true → u.iff2 = true := by
  cases h with
  | di => exact id
  | ei => exact id
  | retn => exact id
  | reti => exact id
  | _ => exact hs

/-- From an awake core without a mark, executing never leaves the mark on a halted core: only HALT halts, only DI and
EI set the mark (R35, R37). -/
theorem ControlWrite.delayAwake {s : State} {i : Instr} {u : Control} (h : ControlWrite s i u)
    (hd : s.eiDiDelay = false) (hh : s.halted = false) : u.eiDiDelay = true → u.halted = false := by
  cases h with
  | halt =>
    intro hm
    rw [show s.eiDiDelay = true from hm] at hd
    cases hd
  | _ => exact fun _ => hh

theorem Executed.inv {i : Instr} {s t : State} (h : Executed i s t) (hi : s.Inv) (hd : s.eiDiDelay = false)
    (hh : s.halted = false) : t.Inv where
  memWf := h.memWf hi.memWf
  iffOrder := h.control.iffOrder hi.iffOrder
  delayAwake := h.control.delayAwake hd hh

/-- What a part of a step that leaves no mark has done to the invariant. -/
theorem Advances.inv {n : Nat} {s t : State} (h : Advances n s t) (hi : s.Inv) (hd : t.eiDiDelay = false) : t.Inv where
  memWf := h.memWf hi.memWf
  iffOrder := h.iffOrder hi.iffOrder
  delayAwake := fun hm => by rw [hd] at hm; cases hm

/-- The rest of a step, from a state of the invariant without a mark, ends in one. -/
theorem haltOrExecute_inv {s t : State} (h : haltOrExecute s = .next t) (hi : s.Inv) (hd : s.eiDiDelay = false) :
    t.Inv ∧ t.params = s.params ∧ t.fault = s.fault := by
  obtain ⟨-, rfl⟩ | ⟨hh, i, q, u, v, hu, hv, rfl, -⟩ := haltOrExecute_runs h
  · exact ⟨(advances_haltedStep s).inv hi hd, rfl, rfl⟩
  · have hud : u.eiDiDelay = false := hu.eiDiDelay.trans hd
    have hx := exec_executed i u v hv
    obtain ⟨hm, ho, hw⟩ := hx.inv (hu.advances.inv hi hud) hud (hu.halted.trans hh)
    obtain ⟨-, -, -, -, -, -, -, hp, -, hf, -⟩ := hx.control.writers
    exact ⟨⟨hm, ho, hw⟩, hp.trans hu.advances.params, hf.trans hu.advances.fault⟩

/-- Settles O20: the interrupt check leaves a state of the invariant without a mark, and the rest of the step keeps
the invariant from there. -/
theorem stepKeepsInv : Obligations.StepKeepsInv := by
  intro s t hi h
  obtain ⟨hf, u, hu, ha, hd⟩ := step_advances h
  obtain ⟨ht, hp, htf⟩ := haltOrExecute_inv hu (ha.inv hi hd) hd
  exact ⟨ht, hp.trans ha.params, (htf.trans ha.fault).trans hf⟩

/-! ### Reset and the faulted core -/

/-- The core as construction leaves it meets the invariant, whatever the parameters (R48). -/
theorem inv_construct (p : Params) : (State.construct p).Inv := ⟨rfl, id, fun _ => rfl⟩

/-- Settles O19: `State.reset` is the construction with the default parameters. -/
theorem invAtReset : Obligations.InvAtReset := ⟨inv_construct Params.default, inv_construct⟩

/-- Settles O24: `step` asks the fault record first (R46). -/
theorem faultedCoreHasNoStep : Obligations.FaultedCoreHasNoStep := by
  intro s hf
  unfold step
  split
  · rfl
  · next h => exact absurd h hf

end Sys2Proof.Machine
end

section
/-! SUPPORT. The flag byte, the register operands and the reset values (10_state.md R30, R31, R40 to R48). -/

namespace Sys2Proof.Machine

/-! ### The flag byte -/

/-- R31, over the 256 bytes. -/
theorem Flags.toByte_ofByte (b : Byte) : (Flags.ofByte b).toByte = b := by
  revert b
  decide

/-- R31, over the 256 flag sets. -/
theorem Flags.ofByte_toByte (f : Flags) : Flags.ofByte f.toByte = f := by
  obtain ⟨s, z, y, h, x, pv, n, c⟩ := f
  revert s z y h x pv n c
  decide

/-- Settles O1. -/
theorem flagByteRoundTrip : Obligations.FlagByteRoundTrip := ⟨Flags.toByte_ofByte, Flags.ofByte_toByte⟩

/-! ### Register operands -/

theorem reg8_setReg8_same (x : Ctx) (n : Reg8) (v : Byte) (s : State) : reg8 x n (setReg8 x n v s) = v := by
  cases n with
  | h => cases x <;> simp [reg8, setReg8]
  | l => cases x <;> simp [reg8, setReg8]
  | _ => rfl

/-- Another operand name is another register, or the other half of the same word, which the write keeps. -/
theorem reg8_setReg8_otherName (x y : Ctx) {n r : Reg8} (hr : r ≠ n) (v : Byte) (s : State) :
    reg8 y r (setReg8 x n v s) = reg8 y r s := by
  cases n with
  | h => cases x <;> cases r <;> cases y <;> simp [reg8, setReg8] at hr ⊢
  | l => cases x <;> cases r <;> cases y <;> simp [reg8, setReg8] at hr ⊢
  | _ => cases r <;> simp [reg8, setReg8] at hr ⊢

/-- H, L and the halves of IX and IY under the same name are in different registers. -/
theorem reg8_setReg8_otherCtx {x y : Ctx} (hxy : y ≠ x) {n : Reg8} (hn : n.isHL = true) (v : Byte) (s : State) :
    reg8 y n (setReg8 x n v s) = reg8 y n s := by
  cases n with
  | h => cases x <;> cases y <;> simp [reg8, setReg8] at hxy ⊢
  | l => cases x <;> cases y <;> simp [reg8, setReg8] at hxy ⊢
  | _ => cases hn

theorem regHL_setRegHL_same (x : Ctx) (v : Word) (s : State) : regHL x (setRegHL x v s) = v := by
  cases x <;> simp [regHL, setRegHL, State.hl]

theorem regHL_setRegHL_otherCtx {x y : Ctx} (hxy : y ≠ x) (v : Word) (s : State) :
    regHL y (setRegHL x v s) = regHL y s := by
  cases x <;> cases y <;> simp [regHL, setRegHL, State.hl] at hxy ⊢

theorem reg16_setReg16_same (x : Ctx) (p : Rp) (v : Word) (s : State) : reg16 x p (setReg16 x p v s) = v := by
  cases p with
  | bc => exact mkWord_hiByte_loByte v
  | de => exact mkWord_hiByte_loByte v
  | hl => exact regHL_setRegHL_same x v s
  | sp => rfl

theorem reg16_setReg16_otherName (x y : Ctx) {p q : Rp} (hq : q ≠ p) (v : Word) (s : State) :
    reg16 y q (setReg16 x p v s) = reg16 y q s := by
  cases p with
  | hl => cases q <;> cases x <;> simp [reg16, setReg16, setRegHL, State.bc, State.de] at hq ⊢
  | _ => cases q <;> cases y <;> simp [reg16, setReg16, regHL, State.bc, State.de, State.hl] at hq ⊢

theorem regHL_eq_halves (x : Ctx) (s : State) : regHL x s = mkWord (reg8 x .h s) (reg8 x .l s) := by
  cases x with
  | none => rfl
  | ix => exact (mkWord_hiByte_loByte s.ix).symm
  | iy => exact (mkWord_hiByte_loByte s.iy).symm

/-- Settles O12: an operand that is another one has another name, or the same name under another context. -/
theorem registerOperands : Obligations.RegisterOperands := by
  refine ⟨fun x n v s => ⟨reg8_setReg8_same x n v s, fun y r hr => ?_⟩,
    fun x p v s => ⟨reg16_setReg16_same x p v s, fun y q hq => ?_⟩,
    fun x s => ⟨regHL_eq_halves x s, rfl, rfl⟩⟩
  · by_cases hrn : r = n
    · obtain hne | ⟨hHL, hyx⟩ := hr
      · exact absurd hrn hne
      · subst hrn
        exact reg8_setReg8_otherCtx hyx hHL v s
    · exact reg8_setReg8_otherName x y hrn v s
  · by_cases hqp : q = p
    · obtain hne | ⟨hHL, hyx⟩ := hq
      · exact absurd hqp hne
      · subst hqp
        cases q with
        | hl => exact regHL_setRegHL_otherCtx hyx v s
        | _ => cases hHL
    · exact reg16_setReg16_otherName x y hqp v s

/-! ### Reset -/

/-- Settles O18: the fields are read off `State.construct`, F' through the round trip of the flag byte. -/
theorem resetValues : Obligations.ResetValues := by
  refine ⟨fun p => ?_, fun s => ⟨rfl, rfl⟩⟩
  have hf : (State.construct p).f.toByte = 0xFF := Flags.toByte_ofByte 0xFF
  have hfAlt : (State.construct p).fAlt.toByte = p.shadowF := Flags.toByte_ofByte p.shadowF
  have hhl : (State.construct p).hl = 0xFFFF := by
    apply BitVec.eq_of_toNat_eq
    exact toNat_mkWord 0xFF 0xFF
  exact ⟨rfl, rfl, rfl, rfl, rfl, hhl, rfl, rfl, rfl, rfl, hf, rfl, hfAlt, rfl, rfl, rfl, rfl, rfl, rfl, rfl, rfl,
    rfl, rfl, rfl, rfl, rfl, rfl, rfl, rfl⟩

end Sys2Proof.Machine
end

section
/-! SUPPORT. Noninterference: an instruction that is not one of the writers of the alternate set, or that runs under no
index context, does the same on a state with another alternate set, or with other index registers (10_state.md R23,
R24). Both are one argument: `overlay` replaces either part, and every shared operation commutes with it. -/

namespace Sys2Proof.Machine

/-- `s` with the alternate set of `z` where `alt`, and with the index registers of `z` where `idx`. -/
def overlay (alt idx : Bool) (z s : State) : State :=
  { s with
    aAlt := if alt then z.aAlt else s.aAlt
    fAlt := if alt then z.fAlt else s.fAlt
    bAlt := if alt then z.bAlt else s.bAlt
    cAlt := if alt then z.cAlt else s.cAlt
    dAlt := if alt then z.dAlt else s.dAlt
    eAlt := if alt then z.eAlt else s.eAlt
    hAlt := if alt then z.hAlt else s.hAlt
    lAlt := if alt then z.lAlt else s.lAlt
    ix := if idx then z.ix else s.ix
    iy := if idx then z.iy else s.iy }

theorem State.withAlternate_eq_overlay (s z : State) : s.withAlternate z = overlay true false z s := rfl

theorem State.withIndexRegs_eq_overlay (s z : State) : s.withIndexRegs z = overlay false true z s := rfl

/-- The operation neither reads nor writes the overlaid part: with another one it does the same and leaves that one. -/
def Blind (alt idx : Bool) (op : State → Out) : Prop :=
  ∀ z s, op (overlay alt idx z s) = mapOut (overlay alt idx z) (op s)

section
variable {alt idx : Bool} {z : State}

/-! ### The operand accessors, under a context that does not name an overlaid register -/

section
variable {x : Ctx} (hx : idx = true → x = .none)
include hx

theorem regHL_overlay (s : State) : regHL x (overlay alt idx z s) = regHL x s := by
  cases idx
  · cases x <;> rfl
  · rw [hx rfl]
    rfl

theorem setRegHL_overlay (v : Word) (s : State) :
    setRegHL x v (overlay alt idx z s) = overlay alt idx z (setRegHL x v s) := by
  cases idx
  · cases x <;> rfl
  · rw [hx rfl]
    rfl

theorem ea_overlay (d : Byte) (s : State) : ea x d (overlay alt idx z s) = ea x d s := by
  cases idx
  · cases x <;> rfl
  · rw [hx rfl]
    rfl

theorem reg8_overlay (n : Reg8) (s : State) : reg8 x n (overlay alt idx z s) = reg8 x n s := by
  cases idx
  · cases n <;> cases x <;> rfl
  · rw [hx rfl]
    cases n <;> rfl

theorem setReg8_overlay (n : Reg8) (v : Byte) (s : State) :
    setReg8 x n v (overlay alt idx z s) = overlay alt idx z (setReg8 x n v s) := by
  cases idx
  · cases n <;> cases x <;> rfl
  · rw [hx rfl]
    cases n <;> rfl

theorem reg16_overlay (p : Rp) (s : State) : reg16 x p (overlay alt idx z s) = reg16 x p s := by
  cases p
  case hl => exact regHL_overlay hx s
  all_goals rfl

theorem setReg16_overlay (p : Rp) (v : Word) (s : State) :
    setReg16 x p v (overlay alt idx z s) = overlay alt idx z (setReg16 x p v s) := by
  cases p
  case hl => exact setRegHL_overlay hx v s
  all_goals rfl

theorem reg16af_overlay (p : Rp2) (s : State) : reg16af x p (overlay alt idx z s) = reg16af x p s := by
  cases p
  case hl => exact regHL_overlay hx s
  all_goals rfl

theorem setReg16af_overlay (p : Rp2) (v : Word) (s : State) :
    setReg16af x p v (overlay alt idx z s) = overlay alt idx z (setReg16af x p v s) := by
  cases p
  case hl => exact setRegHL_overlay hx v s
  all_goals rfl

end

theorem bitMemFlags_overlay (x : Ctx) (a : Word) (f : Flags) (s : State) :
    bitMemFlags x a f (overlay alt idx z s) = overlay alt idx z (bitMemFlags x a f s) := by
  cases x <;> rfl

/-! ### Branches and the adapter operations -/

theorem ite_overlay {c : Prop} [Decidable c] {o o' p p' : Out} (ho : o' = mapOut (overlay alt idx z) o)
    (hp : p' = mapOut (overlay alt idx z) p) :
    (if c then o' else p') = mapOut (overlay alt idx z) (if c then o else p) := by
  split
  · exact ho
  · exact hp

theorem raise_overlay (record : FaultRecord) (s : State) :
    raise record (overlay alt idx z s) = mapOut (overlay alt idx z) (raise record s) := by
  cases record <;> rfl

section
variable {s : State} {k k' : State → Out}
  (hk : ∀ w, k' (overlay alt idx z w) = mapOut (overlay alt idx z) (k w))
include hk

theorem adapterCall_overlay {ad : Adapter} {call : CallName} {addr : Option Word} {failed : State → State}
    (hfailed : ∀ w, failed (overlay alt idx z w) = overlay alt idx z (failed w)) :
    adapterCall ad call addr failed (overlay alt idx z s) k' =
      mapOut (overlay alt idx z) (adapterCall ad call addr failed s k) := by
  unfold adapterCall
  rw [show (overlay alt idx z s).adapterErrs = s.adapterErrs from rfl]
  split
  · next err es _ =>
    exact (congrArg _ (hfailed { s with adapterErrs := es })).trans (raise_overlay _ _)
  · next es _ => exact hk { s with adapterErrs := es }
  · exact hk s

theorem memWrite_overlay (a : Word) (v : Byte) :
    memWrite a v (overlay alt idx z s) k' = mapOut (overlay alt idx z) (memWrite a v s k) :=
  adapterCall_overlay (fun w => hk ((w.store a v).logged (.memWrite a v))) fun _ => rfl

theorem memWrite2_overlay (a v : Word) :
    memWrite2 a v (overlay alt idx z s) k' = mapOut (overlay alt idx z) (memWrite2 a v s k) :=
  memWrite_overlay (fun _ => memWrite_overlay hk (a + 1) (hiByte v)) a (loByte v)

theorem push16_overlay (v : Word) :
    push16 v (overlay alt idx z s) k' = mapOut (overlay alt idx z) (push16 v s k) :=
  memWrite_overlay (s := { s with sp := s.sp - 1 })
    (fun w => memWrite_overlay (s := { w with sp := w.sp - 1 }) hk (w.sp - 1) (loByte v)) (s.sp - 1) (hiByte v)

theorem ioWrite_overlay (port : Word) (v : Byte) :
    ioWrite port v (overlay alt idx z s) k' = mapOut (overlay alt idx z) (ioWrite port v s k) :=
  adapterCall_overlay (fun w => hk (w.logged (.ioWrite port v))) fun _ => rfl

theorem callInterruptFinish_overlay (handle : Nat) :
    callInterruptFinish handle (overlay alt idx z s) k' =
      mapOut (overlay alt idx z) (callInterruptFinish handle s k) :=
  adapterCall_overlay (fun w => hk (w.logged (.interruptFinish handle))) fun _ => rfl

theorem finishInService_overlay :
    finishInService (overlay alt idx z s) k' = mapOut (overlay alt idx z) (finishInService s k) := by
  rcases hs : s.inService with _ | ⟨handle, rest⟩
  · rw [finishInService_nil hs, finishInService_nil (by exact hs), hk]
  · rw [finishInService_cons hs, finishInService_cons (by exact hs)]
    exact callInterruptFinish_overlay (s := { s with inService := rest }) hk handle

end

theorem memRead_overlay {s : State} {k k' : Byte → State → Out}
    (hk : ∀ v w, k' v (overlay alt idx z w) = mapOut (overlay alt idx z) (k v w)) (a : Word) :
    memRead a (overlay alt idx z s) k' = mapOut (overlay alt idx z) (memRead a s k) :=
  adapterCall_overlay (fun w => hk (w.mem.read a) (w.logged (.memRead a (w.mem.read a)))) fun _ => rfl

theorem ioAnswer_overlay (port : Word) (s : State) :
    ioAnswer port (overlay alt idx z s) = ((ioAnswer port s).1, overlay alt idx z (ioAnswer port s).2) := by
  rcases hs : s.ioIn with _ | ⟨v, vs⟩
  · rw [ioAnswer_free hs, ioAnswer_free (by exact hs)]
    rfl
  · rw [ioAnswer_listed hs, ioAnswer_listed (by exact hs)]
    rfl

theorem ioRead_overlay {s : State} {k k' : Byte → State → Out}
    (hk : ∀ v w, k' v (overlay alt idx z w) = mapOut (overlay alt idx z) (k v w)) (port : Word) :
    ioRead port (overlay alt idx z s) k' = mapOut (overlay alt idx z) (ioRead port s k) :=
  adapterCall_overlay
    (fun w => by
      rw [ioAnswer_overlay]
      exact hk (ioAnswer port w).1 ((ioAnswer port w).2.logged (.ioRead port (ioAnswer port w).1)))
    fun _ => rfl

section
variable {s : State} {k k' : Word → State → Out}
  (hk : ∀ v w, k' v (overlay alt idx z w) = mapOut (overlay alt idx z) (k v w))
include hk

theorem memRead2_overlay (a : Word) :
    memRead2 a (overlay alt idx z s) k' = mapOut (overlay alt idx z) (memRead2 a s k) :=
  memRead_overlay (fun lo _ => memRead_overlay (fun hi w => hk (mkWord hi lo) w) (a + 1)) a

theorem pop16_overlay :
    pop16 (overlay alt idx z s) k' = mapOut (overlay alt idx z) (pop16 s k) :=
  memRead_overlay
    (fun lo w => memRead_overlay (s := { w with sp := w.sp + 1 })
      (fun hi w => hk (mkWord hi lo) { w with sp := w.sp + 1 }) (w.sp + 1))
    s.sp

end

theorem returnFromInterrupt_overlay {s : State} {k k' : State → Out}
    (hk : ∀ w, k' (overlay alt idx z w) = mapOut (overlay alt idx z) (k w)) :
    returnFromInterrupt (overlay alt idx z s) k' = mapOut (overlay alt idx z) (returnFromInterrupt s k) :=
  pop16_overlay fun target w => hk { w with pc := target, iff1 := w.iff2 }

end

/-! ### The shared operations -/

section
variable {alt idx : Bool}

theorem opNop_blind : Blind alt idx opNop := fun _ _ => rfl

theorem opHalt_blind : Blind alt idx opHalt := fun _ _ => rfl

theorem opDi_blind : Blind alt idx opDi := fun _ _ => rfl

theorem opEi_blind : Blind alt idx opEi := fun _ _ => rfl

theorem opIm_blind (m : IMode) : Blind alt idx (opIm m) := fun _ _ => rfl

theorem opLdIA_blind : Blind alt idx opLdIA := fun _ _ => rfl

theorem opLdRA_blind : Blind alt idx opLdRA := fun _ _ => rfl

theorem opLdASpecial_blind (v : Byte) : Blind alt idx (opLdASpecial v) := fun _ _ => rfl

theorem opStoreA_blind (addr : Word) (cost : Nat) : Blind alt idx (opStoreA addr cost) :=
  fun _ s => memWrite_overlay (fun _ => rfl) addr s.a

theorem opLoadA_blind (addr : Word) (cost : Nat) : Blind alt idx (opLoadA addr cost) :=
  fun _ _ => memRead_overlay (fun _ _ => rfl) addr

theorem opStoreWord_blind (nn v : Word) (cost : Nat) : Blind alt idx (opStoreWord nn v cost) :=
  fun _ _ => memWrite2_overlay (fun _ => rfl) nn v

/-- The same where the word stored is read from the state. -/
theorem opStoreWord_blind_of_read {v : State → Word} (hv : ∀ z s, v (overlay alt idx z s) = v s) (nn : Word)
    (cost : Nat) : Blind alt idx (fun s => opStoreWord nn (v s) cost s) := fun z s => by
  beta_reduce
  rw [hv z s]
  exact opStoreWord_blind nn (v s) cost z s

theorem opAluN_blind (op : AluOp) (n : Byte) : Blind alt idx (opAluN op n) := fun _ _ => rfl

theorem opNeg_blind : Blind alt idx opNeg := fun _ _ => rfl

theorem opNibbles_blind (toMem toA : Byte → Byte → Byte) : Blind alt idx (opNibbles toMem toA) :=
  fun _ s => memRead_overlay (fun _ _ => memWrite_overlay (fun _ => rfl) _ _) s.hl

theorem opAdcHl_blind (p : Rp) : Blind alt idx (opAdcHl p) := fun z s => by
  cases p <;> rfl

theorem opSbcHl_blind (p : Rp) : Blind alt idx (opSbcHl p) := fun z s => by
  cases p <;> rfl

theorem opAcc_blind (g : Byte → Flags → Byte × Flags) : Blind alt idx (opAcc g) := fun _ _ => rfl

theorem opCpl_blind : Blind alt idx opCpl := fun _ _ => rfl

theorem opScf_blind : Blind alt idx opScf := fun _ _ => rfl

theorem opCcf_blind : Blind alt idx opCcf := fun _ _ => rfl

theorem opJr_blind (e : Byte) : Blind alt idx (opJr e) := fun _ _ => rfl

theorem opJrCc_blind (cc : JrCond) (e : Byte) : Blind alt idx (opJrCc cc e) := fun _ _ => ite_overlay rfl rfl

theorem opDjnz_blind (e : Byte) : Blind alt idx (opDjnz e) := fun _ _ => ite_overlay rfl rfl

theorem opJp_blind (nn : Word) : Blind alt idx (opJp nn) := fun _ _ => rfl

theorem opJpCc_blind (cc : Cond) (nn : Word) : Blind alt idx (opJpCc cc nn) := fun _ _ => ite_overlay rfl rfl

theorem callTo_blind (target : Word) (cost : Nat) : Blind alt idx (callTo target cost) :=
  fun _ s => push16_overlay (fun _ => rfl) s.pc

theorem opCallCc_blind (cc : Cond) (nn : Word) : Blind alt idx (opCallCc cc nn) :=
  fun z s => ite_overlay (callTo_blind nn 17 z s) rfl

theorem returnTo_blind (cost : Nat) : Blind alt idx (returnTo cost) :=
  fun _ _ => pop16_overlay fun _ _ => rfl

theorem opRetCc_blind (cc : Cond) : Blind alt idx (opRetCc cc) :=
  fun z s => ite_overlay (returnTo_blind 11 z s) rfl

theorem opRetn_blind : Blind alt idx opRetn := fun _ _ => returnFromInterrupt_overlay fun _ => rfl

theorem opReti_blind : Blind alt idx opReti := fun _ _ =>
  returnFromInterrupt_overlay fun _ => finishInService_overlay fun _ => rfl

theorem opExDeHl_blind : Blind alt idx opExDeHl := fun _ _ => rfl

/-- EX AF,AF' reads and writes the alternate set, but not the index registers. -/
theorem opExAf_blind : Blind false idx opExAf := fun _ _ => rfl

/-- EXX reads and writes the alternate set, but not the index registers. -/
theorem opExx_blind : Blind false idx opExx := fun _ _ => rfl

/-- The context None names no index register, whatever is overlaid. -/
theorem ctxNone_free : idx = true → Ctx.none = Ctx.none := fun _ => rfl

theorem opRotR_blind (op : RotOp) (n : Reg8) : Blind alt idx (opRotR op n) := fun z s => by
  cases n <;> rfl

theorem opBitR_blind (y : Idx8) (n : Reg8) : Blind alt idx (opBitR y n) := fun z s => by
  cases n <;> rfl

theorem opPutBitR_blind (g : Idx8 → Byte → Byte) (y : Idx8) (n : Reg8) : Blind alt idx (opPutBitR g y n) :=
  fun z s => by cases n <;> rfl

theorem opInAN_blind (n : Byte) : Blind alt idx (opInAN n) :=
  fun _ s => ioRead_overlay (fun _ _ => rfl) (mkWord s.a n)

theorem opOutNA_blind (n : Byte) : Blind alt idx (opOutNA n) :=
  fun _ s => ioWrite_overlay (fun _ => rfl) (mkWord s.a n) s.a

theorem opInR_blind (n : Reg8) : Blind alt idx (opInR n) :=
  fun _ s => ioRead_overlay (fun _ _ => by cases n <;> rfl) s.bc

theorem opOutR_blind (n : Reg8) : Blind alt idx (opOutR n) := fun z s => by
  unfold opOutR
  rw [reg8_overlay ctxNone_free]
  exact ioWrite_overlay (fun _ => rfl) s.bc _

theorem repeatEnd_blind (again : Bool) : Blind alt idx (repeatEnd again) := fun z s => by
  cases again <;> rfl

theorem opCopy_blind (up rep : Bool) : Blind alt idx (opCopy up rep) := fun z s =>
  memRead_overlay
    (fun _ w => memWrite_overlay
      (fun w => repeatEnd_blind _ z (((w.setHL _).setDE _).setBC _ |>.setF _)) w.de _)
    s.hl

theorem opCompare_blind (up rep : Bool) : Blind alt idx (opCompare up rep) := fun z s =>
  memRead_overlay (fun _ w => repeatEnd_blind _ z ((w.setHL _).setBC _ |>.setF _)) s.hl

theorem opInput_blind (up rep : Bool) : Blind alt idx (opInput up rep) := fun z s =>
  ioRead_overlay (fun _ w => memWrite_overlay (fun w => repeatEnd_blind _ z (blockIoStep up w)) w.hl _) s.bc

theorem opOutput_blind (up rep : Bool) : Blind alt idx (opOutput up rep) := fun z s =>
  memRead_overlay (fun _ w => ioWrite_overlay (fun w => repeatEnd_blind _ z (blockIoStep up w)) w.bc _) s.hl

/-! The families of R420: under IX or IY they use an index register, so they are blind to it in the context None. -/

variable {x : Ctx} (hx : idx = true → x = .none)
include hx

theorem opLdRR_blind (dst src : Reg8) : Blind alt idx (opLdRR x dst src) := fun z s => by
  unfold opLdRR
  rw [reg8_overlay hx, setReg8_overlay hx]
  rfl

theorem opLdRM_blind (dst : Reg8) (d : Byte) : Blind alt idx (opLdRM x dst d) := fun z s => by
  unfold opLdRM
  rw [ea_overlay hx]
  exact memRead_overlay (fun v w => by rw [setReg8_overlay ctxNone_free]; rfl) (ea x d s)

theorem opLdMR_blind (src : Reg8) (d : Byte) : Blind alt idx (opLdMR x src d) := fun z s => by
  unfold opLdMR
  rw [ea_overlay hx, reg8_overlay ctxNone_free]
  exact memWrite_overlay (fun _ => rfl) (ea x d s) (reg8 .none src s)

theorem opLdRN_blind (dst : Reg8) (n : Byte) : Blind alt idx (opLdRN x dst n) := fun z s => by
  unfold opLdRN
  rw [setReg8_overlay hx]
  rfl

theorem opLdMN_blind (d n : Byte) : Blind alt idx (opLdMN x d n) := fun z s => by
  unfold opLdMN
  rw [ea_overlay hx]
  exact memWrite_overlay (fun _ => rfl) (ea x d s) n

theorem opLdRpNn_blind (p : Rp) (nn : Word) : Blind alt idx (opLdRpNn x p nn) := fun z s => by
  unfold opLdRpNn
  rw [setReg16_overlay hx]
  rfl

theorem opLoadWord_blind (p : Rp) (nn : Word) (cost : Nat) : Blind alt idx (opLoadWord x p nn cost) := fun z s =>
  memRead2_overlay (fun v w => by rw [setReg16_overlay hx]; rfl) nn

theorem opLdSpHl_blind : Blind alt idx (opLdSpHl x) := fun z s => by
  unfold opLdSpHl
  rw [regHL_overlay hx]
  rfl

theorem opAluR_blind (op : AluOp) (src : Reg8) : Blind alt idx (opAluR x op src) := fun z s => by
  unfold opAluR
  rw [reg8_overlay hx]
  rfl

theorem opAluM_blind (op : AluOp) (d : Byte) : Blind alt idx (opAluM x op d) := fun z s => by
  unfold opAluM
  rw [ea_overlay hx]
  exact memRead_overlay (fun _ _ => rfl) (ea x d s)

theorem opStepR_blind (g : Byte → Flags → Byte × Flags) (n : Reg8) : Blind alt idx (opStepR g x n) := fun z s => by
  unfold opStepR
  rw [reg8_overlay hx]
  exact congrArg (fun w => Host.Outcome.next (State.addT (4 + halfT x n.isHL) w))
    (setReg8_overlay hx n _ (s.setF (g (reg8 x n s) s.f).2))

theorem opStepM_blind (g : Byte → Flags → Byte × Flags) (d : Byte) : Blind alt idx (opStepM g x d) := fun z s => by
  unfold opStepM
  rw [ea_overlay hx]
  exact memRead_overlay (fun v w => memWrite_overlay (s := w.setF (g v w.f).2) (fun _ => rfl) _ _) (ea x d s)

theorem opAddHl_blind (p : Rp) : Blind alt idx (opAddHl x p) := fun z s => by
  unfold opAddHl
  rw [regHL_overlay hx, reg16_overlay hx]
  exact congrArg (fun w => Host.Outcome.next (State.addT (11 + ctxT x) w))
    (setRegHL_overlay hx _ (s.setF (add16 (regHL x s) (reg16 x p s) s.f).2))

theorem opIncRp_blind (p : Rp) : Blind alt idx (opIncRp x p) := fun z s => by
  unfold opIncRp
  rw [reg16_overlay hx, setReg16_overlay hx]
  rfl

theorem opDecRp_blind (p : Rp) : Blind alt idx (opDecRp x p) := fun z s => by
  unfold opDecRp
  rw [reg16_overlay hx, setReg16_overlay hx]
  rfl

theorem opJpHl_blind : Blind alt idx (opJpHl x) := fun z s => by
  unfold opJpHl
  rw [regHL_overlay hx]
  rfl

theorem opPush_blind (p : Rp2) : Blind alt idx (opPush x p) := fun z s => by
  unfold opPush
  rw [reg16af_overlay hx]
  exact push16_overlay (fun _ => rfl) (reg16af x p s)

theorem opPop_blind (p : Rp2) : Blind alt idx (opPop x p) := fun z s =>
  pop16_overlay fun v w => by rw [setReg16af_overlay hx]; rfl

theorem opExSp_blind : Blind alt idx (opExSp x) := fun z s =>
  memRead_overlay
    (fun lo w => memRead_overlay
      (fun hi w => by
        rw [regHL_overlay hx]
        exact memWrite_overlay
          (fun w1 => memWrite_overlay (fun w2 => by rw [setRegHL_overlay hx]; rfl) w1.sp _) (w.sp + 1) _)
      (w.sp + 1))
    s.sp

theorem opRotM_blind (op : RotOp) (d : Byte) : Blind alt idx (opRotM x op d) := fun z s => by
  unfold opRotM
  rw [ea_overlay hx]
  exact memRead_overlay (fun v w => memWrite_overlay (s := w.setF (rotate op v w.f).2) (fun _ => rfl) _ _) (ea x d s)

theorem opBitM_blind (y : Idx8) (d : Byte) : Blind alt idx (opBitM x y d) := fun z s => by
  unfold opBitM
  rw [ea_overlay hx]
  exact memRead_overlay (fun v w => by rw [bitMemFlags_overlay]; rfl) (ea x d s)

theorem opPutBitM_blind (g : Idx8 → Byte → Byte) (y : Idx8) (d : Byte) : Blind alt idx (opPutBitM g x y d) :=
  fun z s => by
  unfold opPutBitM
  rw [ea_overlay hx]
  exact memRead_overlay (fun v w => memWrite_overlay (fun _ => rfl) _ _) (ea x d s)

end

end Sys2Proof.Machine
end

section
/-! SUPPORT. Noninterference over all instructions: the alternate set (10_state.md R23) and the index registers
(R24). An instruction whose encoding starts with no DD or FD byte is that of the context None. -/

namespace Sys2Proof.Machine

/-- The encoding starts with a DD or FD byte. -/
def Prefixed (i : Instr) : Prop := (encode i).head? = some 0xDD ∨ (encode i).head? = some 0xFD

/-! ### Under a context an instruction is a prefixed one or that of the context None -/

theorem pick_prefixed_or_plain (x : Ctx) {plain onIx onIy : Instr} (hix : Prefixed onIx) (hiy : Prefixed onIy) :
    Prefixed (x.pick plain onIx onIy) ∨ x.pick plain onIx onIy = plain := by
  cases x
  · exact .inr rfl
  · exact .inl hix
  · exact .inl hiy

theorem mkLdRR_prefixed_or_plain (x : Ctx) (dst src : Reg8) :
    Prefixed (mkLdRR x dst src) ∨ mkLdRR x dst src = mkLdRR .none dst src := by
  unfold Prefixed
  cases x <;> cases dst <;> cases src <;> decide

theorem mkLdRM_prefixed_or_plain (x : Ctx) (r : Reg8) (d : Byte) :
    Prefixed (mkLdRM x r d) ∨ mkLdRM x r d = mkLdRM .none r d := by
  cases r <;> exact pick_prefixed_or_plain x (.inl rfl) (.inr rfl)

theorem mkLdMR_prefixed_or_plain (x : Ctx) (r : Reg8) (d : Byte) :
    Prefixed (mkLdMR x r d) ∨ mkLdMR x r d = mkLdMR .none r d := by
  cases r <;> exact pick_prefixed_or_plain x (.inl rfl) (.inr rfl)

theorem mkLdRN_prefixed_or_plain (x : Ctx) (r : Reg8) (n : Byte) :
    Prefixed (mkLdRN x r n) ∨ mkLdRN x r n = mkLdRN .none r n := by
  cases r with
  | h => exact pick_prefixed_or_plain x (.inl rfl) (.inr rfl)
  | l => exact pick_prefixed_or_plain x (.inl rfl) (.inr rfl)
  | _ => exact .inr rfl

theorem mkLdMN_prefixed_or_plain (x : Ctx) (d n : Byte) :
    Prefixed (mkLdMN x d n) ∨ mkLdMN x d n = mkLdMN .none d n :=
  pick_prefixed_or_plain x (.inl rfl) (.inr rfl)

theorem mkLdRpNn_prefixed_or_plain (x : Ctx) (p : Rp) (nn : Word) :
    Prefixed (mkLdRpNn x p nn) ∨ mkLdRpNn x p nn = mkLdRpNn .none p nn := by
  cases p with
  | hl => exact pick_prefixed_or_plain x (.inl rfl) (.inr rfl)
  | _ => exact .inr rfl

theorem mkLdNnHl_prefixed_or_plain (x : Ctx) (nn : Word) :
    Prefixed (mkLdNnHl x nn) ∨ mkLdNnHl x nn = mkLdNnHl .none nn :=
  pick_prefixed_or_plain x (.inl rfl) (.inr rfl)

theorem mkLdHlNn_prefixed_or_plain (x : Ctx) (nn : Word) :
    Prefixed (mkLdHlNn x nn) ∨ mkLdHlNn x nn = mkLdHlNn .none nn :=
  pick_prefixed_or_plain x (.inl rfl) (.inr rfl)

theorem mkLdSpHl_prefixed_or_plain (x : Ctx) : Prefixed (mkLdSpHl x) ∨ mkLdSpHl x = mkLdSpHl .none :=
  pick_prefixed_or_plain x (.inl rfl) (.inr rfl)

theorem mkAluR_prefixed_or_plain (x : Ctx) (op : AluOp) (r : Reg8) :
    Prefixed (mkAluR x op r) ∨ mkAluR x op r = mkAluR .none op r := by
  unfold Prefixed
  cases x <;> cases op <;> cases r <;> decide

theorem mkAluM_prefixed_or_plain (x : Ctx) (op : AluOp) (d : Byte) :
    Prefixed (mkAluM x op d) ∨ mkAluM x op d = mkAluM .none op d := by
  cases op <;> exact pick_prefixed_or_plain x (.inl rfl) (.inr rfl)

theorem mkIncR_prefixed_or_plain (x : Ctx) (r : Reg8) : Prefixed (mkIncR x r) ∨ mkIncR x r = mkIncR .none r := by
  cases r with
  | h => exact pick_prefixed_or_plain x (.inl rfl) (.inr rfl)
  | l => exact pick_prefixed_or_plain x (.inl rfl) (.inr rfl)
  | _ => exact .inr rfl

theorem mkDecR_prefixed_or_plain (x : Ctx) (r : Reg8) : Prefixed (mkDecR x r) ∨ mkDecR x r = mkDecR .none r := by
  cases r with
  | h => exact pick_prefixed_or_plain x (.inl rfl) (.inr rfl)
  | l => exact pick_prefixed_or_plain x (.inl rfl) (.inr rfl)
  | _ => exact .inr rfl

theorem mkIncM_prefixed_or_plain (x : Ctx) (d : Byte) : Prefixed (mkIncM x d) ∨ mkIncM x d = mkIncM .none d :=
  pick_prefixed_or_plain x (.inl rfl) (.inr rfl)

theorem mkDecM_prefixed_or_plain (x : Ctx) (d : Byte) : Prefixed (mkDecM x d) ∨ mkDecM x d = mkDecM .none d :=
  pick_prefixed_or_plain x (.inl rfl) (.inr rfl)

theorem mkAddHl_prefixed_or_plain (x : Ctx) (p : Rp) : Prefixed (mkAddHl x p) ∨ mkAddHl x p = mkAddHl .none p := by
  cases p <;> exact pick_prefixed_or_plain x (.inl rfl) (.inr rfl)

theorem mkIncRp_prefixed_or_plain (x : Ctx) (p : Rp) : Prefixed (mkIncRp x p) ∨ mkIncRp x p = mkIncRp .none p := by
  cases p with
  | hl => exact pick_prefixed_or_plain x (.inl rfl) (.inr rfl)
  | _ => exact .inr rfl

theorem mkDecRp_prefixed_or_plain (x : Ctx) (p : Rp) : Prefixed (mkDecRp x p) ∨ mkDecRp x p = mkDecRp .none p := by
  cases p with
  | hl => exact pick_prefixed_or_plain x (.inl rfl) (.inr rfl)
  | _ => exact .inr rfl

theorem mkJpHl_prefixed_or_plain (x : Ctx) : Prefixed (mkJpHl x) ∨ mkJpHl x = mkJpHl .none :=
  pick_prefixed_or_plain x (.inl rfl) (.inr rfl)

theorem mkPush_prefixed_or_plain (x : Ctx) (p : Rp2) : Prefixed (mkPush x p) ∨ mkPush x p = mkPush .none p := by
  cases p with
  | hl => exact pick_prefixed_or_plain x (.inl rfl) (.inr rfl)
  | _ => exact .inr rfl

theorem mkPop_prefixed_or_plain (x : Ctx) (p : Rp2) : Prefixed (mkPop x p) ∨ mkPop x p = mkPop .none p := by
  cases p with
  | hl => exact pick_prefixed_or_plain x (.inl rfl) (.inr rfl)
  | _ => exact .inr rfl

theorem mkExSp_prefixed_or_plain (x : Ctx) : Prefixed (mkExSp x) ∨ mkExSp x = mkExSp .none :=
  pick_prefixed_or_plain x (.inl rfl) (.inr rfl)

theorem mkRotM_prefixed_or_plain (x : Ctx) (op : RotOp) (d : Byte) :
    Prefixed (mkRotM x op d) ∨ mkRotM x op d = mkRotM .none op d := by
  cases op <;> exact pick_prefixed_or_plain x (.inl rfl) (.inr rfl)

theorem mkBitM_prefixed_or_plain (x : Ctx) (y : Idx8) (d : Byte) :
    Prefixed (mkBitM x y d) ∨ mkBitM x y d = mkBitM .none y d := by
  cases y <;> exact pick_prefixed_or_plain x (.inl rfl) (.inr rfl)

theorem mkResM_prefixed_or_plain (x : Ctx) (y : Idx8) (d : Byte) :
    Prefixed (mkResM x y d) ∨ mkResM x y d = mkResM .none y d := by
  cases y <;> exact pick_prefixed_or_plain x (.inl rfl) (.inr rfl)

theorem mkSetM_prefixed_or_plain (x : Ctx) (y : Idx8) (d : Byte) :
    Prefixed (mkSetM x y d) ∨ mkSetM x y d = mkSetM .none y d := by
  cases y <;> exact pick_prefixed_or_plain x (.inl rfl) (.inr rfl)

/-! ### Every instruction -/

/-- A family under a context: where the index registers are overlaid, the instruction is not a prefixed one, so it is
that of the context None. -/
theorem exec_blind_of_ctx {alt idx : Bool} {mk : Ctx → Instr} {op : Ctx → State → Out}
    (hexec : ∀ x s, exec (mk x) s = op x s) (hmk : ∀ x, Prefixed (mk x) ∨ mk x = mk .none)
    (hop : ∀ x, (idx = true → x = .none) → Blind alt idx (op x)) (x : Ctx) (hi : idx = true → ¬ Prefixed (mk x)) :
    Blind alt idx (exec (mk x)) := by
  have hblind : ∀ y, (idx = true → y = .none) → Blind alt idx (exec (mk y)) := fun y hy => by
    rw [funext (hexec y)]
    exact hop y hy
  cases idx with
  | false => exact hblind x nofun
  | true =>
    obtain hp | hplain := hmk x
    · exact absurd hp (hi rfl)
    · rw [hplain]
      exact hblind .none fun _ => rfl

/-- Every instruction but EX AF,AF' and EXX is blind to the alternate set, and every one without a DD or FD byte to the
index registers (R23, R24), one case per family. -/
theorem exec_blind {alt idx : Bool} (i : Instr) (ha : alt = true → i ≠ .ex_AF_AFs ∧ i ≠ .exx)
    (hi : idx = true → ¬ Prefixed i) : Blind alt idx (exec i) := by
  induction i using instr_families with
  | hNop => exact opNop_blind
  | hHalt => exact opHalt_blind
  | hDi => exact opDi_blind
  | hEi => exact opEi_blind
  | hIm m => exact funext (exec_mkIm m) ▸ opIm_blind m
  | hLdIA => exact opLdIA_blind
  | hLdRA => exact opLdRA_blind
  | hLdAI => exact fun z s => opLdASpecial_blind s.i z s
  | hLdAR => exact fun z s => opLdASpecial_blind s.r z s
  | hLdRR x dst src =>
    exact exec_blind_of_ctx (mk := (mkLdRR · dst src)) (exec_mkLdRR · dst src) (mkLdRR_prefixed_or_plain · dst src)
      (fun _ hx => opLdRR_blind hx dst src) x hi
  | hLdRM x r d =>
    exact exec_blind_of_ctx (mk := (mkLdRM · r d)) (exec_mkLdRM · r d) (mkLdRM_prefixed_or_plain · r d)
      (fun _ hx => opLdRM_blind hx r d) x hi
  | hLdMR x r d =>
    exact exec_blind_of_ctx (mk := (mkLdMR · r d)) (exec_mkLdMR · r d) (mkLdMR_prefixed_or_plain · r d)
      (fun _ hx => opLdMR_blind hx r d) x hi
  | hLdRN x r n =>
    exact exec_blind_of_ctx (mk := (mkLdRN · r n)) (exec_mkLdRN · r n) (mkLdRN_prefixed_or_plain · r n)
      (fun _ hx => opLdRN_blind hx r n) x hi
  | hLdMN x d n =>
    exact exec_blind_of_ctx (mk := (mkLdMN · d n)) (exec_mkLdMN · d n) (mkLdMN_prefixed_or_plain · d n)
      (fun _ hx => opLdMN_blind hx d n) x hi
  | hLdBcA => exact fun z s => opStoreA_blind s.bc 7 z s
  | hLdDeA => exact fun z s => opStoreA_blind s.de 7 z s
  | hLdNnA nn => exact opStoreA_blind nn 13
  | hLdABc => exact fun z s => opLoadA_blind s.bc 7 z s
  | hLdADe => exact fun z s => opLoadA_blind s.de 7 z s
  | hLdANn nn => exact opLoadA_blind nn 13
  | hLdRpNn x p nn =>
    exact exec_blind_of_ctx (mk := (mkLdRpNn · p nn)) (exec_mkLdRpNn · p nn) (mkLdRpNn_prefixed_or_plain · p nn)
      (fun _ hx => opLdRpNn_blind hx p nn) x hi
  | hLdNnHl x nn =>
    exact exec_blind_of_ctx (mk := (mkLdNnHl · nn)) (exec_mkLdNnHl · nn) (mkLdNnHl_prefixed_or_plain · nn)
      (fun y hx => opStoreWord_blind_of_read (fun _ s => regHL_overlay hx s) nn (16 + ctxT y)) x hi
  | hLdHlNn x nn =>
    exact exec_blind_of_ctx (mk := (mkLdHlNn · nn)) (exec_mkLdHlNn · nn) (mkLdHlNn_prefixed_or_plain · nn)
      (fun y hx => opLoadWord_blind hx .hl nn (16 + ctxT y)) x hi
  | hLdNnRp p nn =>
    exact funext (exec_mkLdNnRp p nn) ▸
      opStoreWord_blind_of_read (fun _ s => reg16_overlay ctxNone_free p s) nn 20
  | hLdRpNnMem p nn => exact funext (exec_mkLdRpNnMem p nn) ▸ opLoadWord_blind ctxNone_free p nn 20
  | hLdSpHl x =>
    exact exec_blind_of_ctx (mk := mkLdSpHl) exec_mkLdSpHl mkLdSpHl_prefixed_or_plain (fun _ hx => opLdSpHl_blind hx)
      x hi
  | hAluR x op r =>
    exact exec_blind_of_ctx (mk := (mkAluR · op r)) (exec_mkAluR · op r) (mkAluR_prefixed_or_plain · op r)
      (fun _ hx => opAluR_blind hx op r) x hi
  | hAluM x op d =>
    exact exec_blind_of_ctx (mk := (mkAluM · op d)) (exec_mkAluM · op d) (mkAluM_prefixed_or_plain · op d)
      (fun _ hx => opAluM_blind hx op d) x hi
  | hAluN op n => exact funext (exec_mkAluN op n) ▸ opAluN_blind op n
  | hIncR x r =>
    exact exec_blind_of_ctx (mk := (mkIncR · r)) (exec_mkIncR · r) (mkIncR_prefixed_or_plain · r)
      (fun _ hx => opStepR_blind hx inc8 r) x hi
  | hDecR x r =>
    exact exec_blind_of_ctx (mk := (mkDecR · r)) (exec_mkDecR · r) (mkDecR_prefixed_or_plain · r)
      (fun _ hx => opStepR_blind hx dec8 r) x hi
  | hIncM x d =>
    exact exec_blind_of_ctx (mk := (mkIncM · d)) (exec_mkIncM · d) (mkIncM_prefixed_or_plain · d)
      (fun _ hx => opStepM_blind hx inc8 d) x hi
  | hDecM x d =>
    exact exec_blind_of_ctx (mk := (mkDecM · d)) (exec_mkDecM · d) (mkDecM_prefixed_or_plain · d)
      (fun _ hx => opStepM_blind hx dec8 d) x hi
  | hNeg => exact opNeg_blind
  | hRrd => exact opNibbles_blind rrdMem rrdA
  | hRld => exact opNibbles_blind rldMem rldA
  | hAddHl x p =>
    exact exec_blind_of_ctx (mk := (mkAddHl · p)) (exec_mkAddHl · p) (mkAddHl_prefixed_or_plain · p)
      (fun _ hx => opAddHl_blind hx p) x hi
  | hIncRp x p =>
    exact exec_blind_of_ctx (mk := (mkIncRp · p)) (exec_mkIncRp · p) (mkIncRp_prefixed_or_plain · p)
      (fun _ hx => opIncRp_blind hx p) x hi
  | hDecRp x p =>
    exact exec_blind_of_ctx (mk := (mkDecRp · p)) (exec_mkDecRp · p) (mkDecRp_prefixed_or_plain · p)
      (fun _ hx => opDecRp_blind hx p) x hi
  | hAdcHl p => exact funext (exec_mkAdcHl p) ▸ opAdcHl_blind p
  | hSbcHl p => exact funext (exec_mkSbcHl p) ▸ opSbcHl_blind p
  | hRlca => exact opAcc_blind rlca
  | hRrca => exact opAcc_blind rrca
  | hRla => exact opAcc_blind rla
  | hRra => exact opAcc_blind rra
  | hDaa => exact opAcc_blind daa
  | hCpl => exact opCpl_blind
  | hScf => exact opScf_blind
  | hCcf => exact opCcf_blind
  | hJr e => exact opJr_blind e
  | hJrCc cc e => exact funext (exec_mkJrCc cc e) ▸ opJrCc_blind cc e
  | hDjnz e => exact opDjnz_blind e
  | hJp nn => exact opJp_blind nn
  | hJpCc cc nn => exact funext (exec_mkJpCc cc nn) ▸ opJpCc_blind cc nn
  | hJpHl x =>
    exact exec_blind_of_ctx (mk := mkJpHl) exec_mkJpHl mkJpHl_prefixed_or_plain (fun _ hx => opJpHl_blind hx) x hi
  | hCall nn => exact callTo_blind nn 17
  | hCallCc cc nn => exact funext (exec_mkCallCc cc nn) ▸ opCallCc_blind cc nn
  | hRst y => exact funext (exec_mkRst y) ▸ callTo_blind (BitVec.ofNat 16 (y.toNat * 8)) 11
  | hRet => exact returnTo_blind 10
  | hRetCc cc => exact funext (exec_mkRetCc cc) ▸ opRetCc_blind cc
  | hRetn => exact opRetn_blind
  | hReti => exact opReti_blind
  | hPush x p =>
    exact exec_blind_of_ctx (mk := (mkPush · p)) (exec_mkPush · p) (mkPush_prefixed_or_plain · p)
      (fun _ hx => opPush_blind hx p) x hi
  | hPop x p =>
    exact exec_blind_of_ctx (mk := (mkPop · p)) (exec_mkPop · p) (mkPop_prefixed_or_plain · p)
      (fun _ hx => opPop_blind hx p) x hi
  | hExAf =>
    cases alt with
    | false => exact opExAf_blind
    | true => exact absurd rfl (ha rfl).1
  | hExx =>
    cases alt with
    | false => exact opExx_blind
    | true => exact absurd rfl (ha rfl).2
  | hExDeHl => exact opExDeHl_blind
  | hExSp x =>
    exact exec_blind_of_ctx (mk := mkExSp) exec_mkExSp mkExSp_prefixed_or_plain (fun _ hx => opExSp_blind hx) x hi
  | hRotR op r => exact funext (exec_mkRotR op r) ▸ opRotR_blind op r
  | hRotM x op d =>
    exact exec_blind_of_ctx (mk := (mkRotM · op d)) (exec_mkRotM · op d) (mkRotM_prefixed_or_plain · op d)
      (fun _ hx => opRotM_blind hx op d) x hi
  | hBitR y r => exact funext (exec_mkBitR y r) ▸ opBitR_blind y r
  | hBitM x y d =>
    exact exec_blind_of_ctx (mk := (mkBitM · y d)) (exec_mkBitM · y d) (mkBitM_prefixed_or_plain · y d)
      (fun _ hx => opBitM_blind hx y d) x hi
  | hResR y r => exact funext (exec_mkResR y r) ▸ opPutBitR_blind resBit y r
  | hResM x y d =>
    exact exec_blind_of_ctx (mk := (mkResM · y d)) (exec_mkResM · y d) (mkResM_prefixed_or_plain · y d)
      (fun _ hx => opPutBitM_blind hx resBit y d) x hi
  | hSetR y r => exact funext (exec_mkSetR y r) ▸ opPutBitR_blind setBit y r
  | hSetM x y d =>
    exact exec_blind_of_ctx (mk := (mkSetM · y d)) (exec_mkSetM · y d) (mkSetM_prefixed_or_plain · y d)
      (fun _ hx => opPutBitM_blind hx setBit y d) x hi
  | hInAN n => exact opInAN_blind n
  | hOutNA n => exact opOutNA_blind n
  | hInR r => exact funext (exec_mkInR r) ▸ opInR_blind r
  | hOutR r => exact funext (exec_mkOutR r) ▸ opOutR_blind r
  | hLdi => exact opCopy_blind true false
  | hLdd => exact opCopy_blind false false
  | hLdir => exact opCopy_blind true true
  | hLddr => exact opCopy_blind false true
  | hCpi => exact opCompare_blind true false
  | hCpd => exact opCompare_blind false false
  | hCpir => exact opCompare_blind true true
  | hCpdr => exact opCompare_blind false true
  | hIni => exact opInput_blind true false
  | hInd => exact opInput_blind false false
  | hInir => exact opInput_blind true true
  | hIndr => exact opInput_blind false true
  | hOuti => exact opOutput_blind true false
  | hOutd => exact opOutput_blind false false
  | hOtir => exact opOutput_blind true true
  | hOtdr => exact opOutput_blind false true

/-- Settles O34: the alternate set is the first part of the overlay. -/
theorem alternateSetUntouched : Obligations.AlternateSetUntouched :=
  fun i s z hexaf hexx => exec_blind (alt := true) (idx := false) i (fun _ => ⟨hexaf, hexx⟩) nofun z s

/-- Settles O35: the index registers are the second part of the overlay. -/
theorem indexRegistersUntouched : Obligations.IndexRegistersUntouched :=
  fun i s z hdd hfd =>
    exec_blind (alt := false) (idx := true) i nofun (fun _ => not_or.mpr ⟨hdd, hfd⟩) z s

end Sys2Proof.Machine
end

section
/-! SUPPORT. Memory follows the log (20_memory.md R69, R72, R77): one relation, `MemFollows`, one rule for it per
operation, and what every instruction and every part of a step does to it. -/

namespace Sys2Proof.Machine

/-- From `s` to `u` some calls were logged, and memory is what their writes, in order, make of it. It speaks of no
other field, so a proof of it for `u` is, by unfolding, one for `u` with any register changed. -/
def MemFollows (s u : State) : Prop := ∃ calls, u.trace = calls ++ s.trace ∧ u.mem = replay calls s.mem

namespace MemFollows

theorem refl (s : State) : MemFollows s s := ⟨[], rfl, rfl⟩

theorem trans {s u t : State} (hu : MemFollows s u) (ht : MemFollows u t) : MemFollows s t := by
  obtain ⟨calls, hlog, hmem⟩ := hu
  obtain ⟨later, hlog', hmem'⟩ := ht
  refine ⟨later ++ calls, ?_, ?_⟩
  · rw [hlog', hlog, List.append_assoc]
  · rw [hmem', hmem, replay, replay, replay, List.foldr_append]

/-- One more call: it is logged, and memory is changed as the call changes it. -/
theorem call {s u w : State} (hu : MemFollows s u) (ev : BusCall) (hlog : w.trace = ev :: u.trace)
    (hmem : w.mem = applyCall ev u.mem) : MemFollows s w :=
  hu.trans ⟨[ev], hlog, hmem⟩

/-! Writing a register operand is no call. -/

section
variable {s u : State} (hu : MemFollows s u)
include hu

theorem setF (g : Flags) : MemFollows s (u.setF g) := hu

theorem setReg8 (x : Ctx) (n : Reg8) (v : Byte) : MemFollows s (setReg8 x n v u) := by
  cases n <;> cases x <;> exact hu

theorem setRegHL (x : Ctx) (v : Word) : MemFollows s (setRegHL x v u) := by
  cases x <;> exact hu

theorem setReg16 (x : Ctx) (p : Rp) (v : Word) : MemFollows s (setReg16 x p v u) := by
  cases p
  case hl => exact setRegHL hu x v
  all_goals exact hu

theorem setReg16af (x : Ctx) (p : Rp2) (v : Word) : MemFollows s (setReg16af x p v u) := by
  cases p
  case hl => exact setRegHL hu x v
  all_goals exact hu

theorem bitMemFlags (x : Ctx) (a : Word) (g : Flags) : MemFollows s (bitMemFlags x a g u) := by
  cases x <;> exact hu

theorem ioAnswer (port : Word) : MemFollows s (ioAnswer port u).2 := by
  unfold Machine.ioAnswer
  split <;> exact hu

theorem pendingAnswer : MemFollows s (pendingAnswer u).2 := by
  unfold Machine.pendingAnswer
  split <;> exact hu

theorem fetched (m1 : Bool) : MemFollows s (u.fetched m1) := by
  cases m1 <;> exact hu

end

/-! One rule per adapter and registry operation: what is left is the rest of the step. -/

section
variable {s u : State} {Q : State → Prop} (hu : MemFollows s u)
include hu

theorem adapterCall {ad : Adapter} {call : CallName} {addr : Option Word} {failed : State → State} {k : State → Out}
    (hk : ∀ w, MemFollows s w → Ends Q (k w)) : Ends Q (adapterCall ad call addr failed u k) :=
  fun t ht => hk u.called hu t (adapterCall_next ht)

theorem memRead {a : Word} {k : Byte → State → Out} (hk : ∀ v w, MemFollows s w → Ends Q (k v w)) :
    Ends Q (memRead a u k) :=
  adapterCall hu fun _ hw => hk _ _ (hw.call (.memRead a _) rfl rfl)

theorem memWrite {a : Word} {v : Byte} {k : State → Out} (hk : ∀ w, MemFollows s w → Ends Q (k w)) :
    Ends Q (memWrite a v u k) :=
  adapterCall hu fun _ hw => hk _ (hw.call (.memWrite a v) rfl rfl)

theorem memRead2 {a : Word} {k : Word → State → Out} (hk : ∀ v w, MemFollows s w → Ends Q (k v w)) :
    Ends Q (memRead2 a u k) :=
  memRead hu fun _ _ hw => memRead hw fun _ _ hw => hk _ _ hw

theorem memWrite2 {a v : Word} {k : State → Out} (hk : ∀ w, MemFollows s w → Ends Q (k w)) :
    Ends Q (memWrite2 a v u k) :=
  memWrite hu fun _ hw => memWrite hw hk

theorem push16 {v : Word} {k : State → Out} (hk : ∀ w, MemFollows s w → Ends Q (k w)) : Ends Q (push16 v u k) :=
  memWrite (u := { u with sp := u.sp - 1 }) hu fun w hw => memWrite (u := { w with sp := w.sp - 1 }) hw hk

theorem pop16 {k : Word → State → Out} (hk : ∀ v w, MemFollows s w → Ends Q (k v w)) : Ends Q (pop16 u k) :=
  memRead hu fun lo w hw => memRead (u := { w with sp := w.sp + 1 }) hw fun hi w hw =>
    hk (mkWord hi lo) { w with sp := w.sp + 1 } hw

theorem ioRead {port : Word} {k : Byte → State → Out} (hk : ∀ v w, MemFollows s w → Ends Q (k v w)) :
    Ends Q (ioRead port u k) :=
  adapterCall hu fun _ hw => hk _ _ ((hw.ioAnswer port).call (.ioRead port _) rfl rfl)

theorem ioWrite {port : Word} {v : Byte} {k : State → Out} (hk : ∀ w, MemFollows s w → Ends Q (k w)) :
    Ends Q (ioWrite port v u k) :=
  adapterCall hu fun _ hw => hk _ (hw.call (.ioWrite port v) rfl rfl)

theorem getPendingSource {k : Option Source → State → Out} (hk : ∀ o w, MemFollows s w → Ends Q (k o w)) :
    Ends Q (getPendingSource u k) :=
  adapterCall hu fun _ hw => hk _ _ (hw.pendingAnswer.call (.getPendingSource _) rfl rfl)

theorem callAcceptInterrupt {src : Source} {k : Byte → State → Out}
    (hk : ∀ v w, MemFollows s w → Ends Q (k v w)) : Ends Q (callAcceptInterrupt src u k) :=
  adapterCall hu fun _ hw => hk _ _ (hw.call (.acceptInterrupt src.handle src.vector) rfl rfl)

theorem callInterruptFinish {handle : Nat} {k : State → Out} (hk : ∀ w, MemFollows s w → Ends Q (k w)) :
    Ends Q (callInterruptFinish handle u k) :=
  adapterCall hu fun _ hw => hk _ (hw.call (.interruptFinish handle) rfl rfl)

theorem returnFromInterrupt {k : State → Out} (hk : ∀ w, MemFollows s w → Ends Q (k w)) :
    Ends Q (returnFromInterrupt u k) :=
  pop16 hu fun target w hw => hk { w with pc := target, iff1 := w.iff2 } hw

theorem finishInService {k : State → Out} (hk : ∀ w, MemFollows s w → Ends Q (k w)) :
    Ends Q (finishInService u k) := by
  rcases hs : u.inService with _ | ⟨handle, rest⟩
  · rw [finishInService_nil hs]
    exact hk u hu
  · rw [finishInService_cons hs]
    exact callInterruptFinish (u := { u with inService := rest }) hu hk

theorem pushAndEnter {target : Word} {handle cost : Nat} {k : State → Out}
    (hk : ∀ w, MemFollows s w → Ends Q (k w)) : Ends Q (pushAndEnter target handle cost u k) :=
  push16 (u := { u with halted := false }) hu fun w hw => hk (enterHandler target handle cost w) hw

end

end MemFollows

/-- A fault answers no next state. -/
theorem Ends.raise {Q : State → Prop} (record : FaultRecord) (s : State) : Ends Q (raise record s) := by
  rintro _ ⟨⟩

/-! ### Every instruction -/

/-- Repeating or not, the end of a block iteration makes no call (46_block.md R391). -/
theorem MemFollows.repeatEnd {s u : State} (hu : MemFollows s u) (again : Bool) :
    Ends (MemFollows s) (repeatEnd again u) := by
  cases again
  · exact .next hu
  · exact .next hu

/-! The operations that several families share. -/

section
variable (s : State)

theorem opStoreA_memFollows (addr : Word) (cost : Nat) : Ends (MemFollows s) (opStoreA addr cost s) :=
  (MemFollows.refl s).memWrite fun _ hw => .next hw

theorem opLoadA_memFollows (addr : Word) (cost : Nat) : Ends (MemFollows s) (opLoadA addr cost s) :=
  (MemFollows.refl s).memRead fun _ _ hw => .next hw

theorem opStoreWord_memFollows (nn v : Word) (cost : Nat) : Ends (MemFollows s) (opStoreWord nn v cost s) :=
  (MemFollows.refl s).memWrite2 fun _ hw => .next hw

theorem opLoadWord_memFollows (x : Ctx) (p : Rp) (nn : Word) (cost : Nat) :
    Ends (MemFollows s) (opLoadWord x p nn cost s) :=
  (MemFollows.refl s).memRead2 fun v _ hw => .next (hw.setReg16 x p v)

theorem opStepR_memFollows (g : Byte → Flags → Byte × Flags) (x : Ctx) (n : Reg8) :
    Ends (MemFollows s) (opStepR g x n s) :=
  .next ((MemFollows.refl s).setF _ |>.setReg8 x n _)

theorem opStepM_memFollows (g : Byte → Flags → Byte × Flags) (x : Ctx) (d : Byte) :
    Ends (MemFollows s) (opStepM g x d s) :=
  (MemFollows.refl s).memRead fun _ _ hw => (hw.setF _).memWrite fun _ hw => .next hw

theorem opNibbles_memFollows (toMem toA : Byte → Byte → Byte) : Ends (MemFollows s) (opNibbles toMem toA s) :=
  (MemFollows.refl s).memRead fun _ _ hw => hw.memWrite fun _ hw => .next hw

theorem opPutBitR_memFollows (g : Idx8 → Byte → Byte) (y : Idx8) (n : Reg8) :
    Ends (MemFollows s) (opPutBitR g y n s) :=
  .next ((MemFollows.refl s).setReg8 .none n _)

theorem opPutBitM_memFollows (g : Idx8 → Byte → Byte) (x : Ctx) (y : Idx8) (d : Byte) :
    Ends (MemFollows s) (opPutBitM g x y d s) :=
  (MemFollows.refl s).memRead fun _ _ hw => hw.memWrite fun _ hw => .next hw

theorem callTo_memFollows (target : Word) (cost : Nat) : Ends (MemFollows s) (callTo target cost s) :=
  (MemFollows.refl s).push16 fun _ hw => .next hw

theorem returnTo_memFollows (cost : Nat) : Ends (MemFollows s) (returnTo cost s) :=
  (MemFollows.refl s).pop16 fun _ _ hw => .next hw

theorem opCopy_memFollows (up rep : Bool) : Ends (MemFollows s) (opCopy up rep s) :=
  (MemFollows.refl s).memRead fun _ _ hw => hw.memWrite fun _ hw => MemFollows.repeatEnd (by exact hw) _

theorem opCompare_memFollows (up rep : Bool) : Ends (MemFollows s) (opCompare up rep s) :=
  (MemFollows.refl s).memRead fun _ _ hw => MemFollows.repeatEnd (by exact hw) _

theorem opInput_memFollows (up rep : Bool) : Ends (MemFollows s) (opInput up rep s) :=
  (MemFollows.refl s).ioRead fun _ _ hw => hw.memWrite fun _ hw => MemFollows.repeatEnd (by exact hw) _

theorem opOutput_memFollows (up rep : Bool) : Ends (MemFollows s) (opOutput up rep s) :=
  (MemFollows.refl s).memRead fun _ _ hw => hw.ioWrite fun _ hw => MemFollows.repeatEnd (by exact hw) _

end

/-- Executing an instruction changes memory by its logged writes alone, one case per family: the calls its shared
operation makes, in order, and register writes between them. -/
theorem exec_memFollows (i : Instr) (s : State) : Ends (MemFollows s) (exec i s) := by
  have hs := MemFollows.refl s
  induction i using instr_families with
  | hNop | hHalt | hDi | hEi | hLdIA | hLdRA | hLdAI | hLdAR | hNeg | hRlca | hRrca | hRla | hRra | hDaa | hCpl
  | hScf | hCcf | hJr e | hJp nn | hExAf | hExx | hExDeHl => exact .next hs
  | hIm m => exact exec_mkIm m s ▸ .next hs
  | hLdRR x dst src => exact exec_mkLdRR x dst src s ▸ .next (hs.setReg8 x dst _)
  | hLdRM x r d => exact exec_mkLdRM x r d s ▸ hs.memRead fun v _ hw => .next (hw.setReg8 .none r v)
  | hLdMR x r d => exact exec_mkLdMR x r d s ▸ hs.memWrite fun _ hw => .next hw
  | hLdRN x r n => exact exec_mkLdRN x r n s ▸ .next (hs.setReg8 x r n)
  | hLdMN x d n => exact exec_mkLdMN x d n s ▸ hs.memWrite fun _ hw => .next hw
  | hLdBcA => exact opStoreA_memFollows s s.bc 7
  | hLdDeA => exact opStoreA_memFollows s s.de 7
  | hLdNnA nn => exact opStoreA_memFollows s nn 13
  | hLdABc => exact opLoadA_memFollows s s.bc 7
  | hLdADe => exact opLoadA_memFollows s s.de 7
  | hLdANn nn => exact opLoadA_memFollows s nn 13
  | hLdRpNn x p nn => exact exec_mkLdRpNn x p nn s ▸ .next (hs.setReg16 x p nn)
  | hLdNnHl x nn => exact exec_mkLdNnHl x nn s ▸ opStoreWord_memFollows s nn _ _
  | hLdHlNn x nn => exact exec_mkLdHlNn x nn s ▸ opLoadWord_memFollows s x .hl nn _
  | hLdNnRp p nn => exact exec_mkLdNnRp p nn s ▸ opStoreWord_memFollows s nn _ _
  | hLdRpNnMem p nn => exact exec_mkLdRpNnMem p nn s ▸ opLoadWord_memFollows s .none p nn _
  | hLdSpHl x => exact exec_mkLdSpHl x s ▸ .next hs
  | hAluR x op r => exact exec_mkAluR x op r s ▸ .next hs
  | hAluM x op d => exact exec_mkAluM x op d s ▸ hs.memRead fun _ _ hw => .next hw
  | hAluN op n => exact exec_mkAluN op n s ▸ .next hs
  | hIncR x r => exact exec_mkIncR x r s ▸ opStepR_memFollows s inc8 x r
  | hDecR x r => exact exec_mkDecR x r s ▸ opStepR_memFollows s dec8 x r
  | hIncM x d => exact exec_mkIncM x d s ▸ opStepM_memFollows s inc8 x d
  | hDecM x d => exact exec_mkDecM x d s ▸ opStepM_memFollows s dec8 x d
  | hRrd => exact opNibbles_memFollows s rrdMem rrdA
  | hRld => exact opNibbles_memFollows s rldMem rldA
  | hAddHl x p => exact exec_mkAddHl x p s ▸ .next (hs.setF _ |>.setRegHL x _)
  | hIncRp x p => exact exec_mkIncRp x p s ▸ .next (hs.setReg16 x p _)
  | hDecRp x p => exact exec_mkDecRp x p s ▸ .next (hs.setReg16 x p _)
  | hAdcHl p => exact exec_mkAdcHl p s ▸ .next hs
  | hSbcHl p => exact exec_mkSbcHl p s ▸ .next hs
  | hJrCc cc e =>
    rw [exec_mkJrCc, opJrCc]
    split <;> exact .next hs
  | hDjnz e =>
    rw [exec_mkDjnz, opDjnz]
    split <;> exact .next hs
  | hJpCc cc nn =>
    rw [exec_mkJpCc, opJpCc]
    split <;> exact .next hs
  | hJpHl x => exact exec_mkJpHl x s ▸ .next hs
  | hCall nn => exact callTo_memFollows s nn 17
  | hCallCc cc nn =>
    rw [exec_mkCallCc, opCallCc]
    split
    · exact callTo_memFollows s nn 17
    · exact .next hs
  | hRst y => exact exec_mkRst y s ▸ callTo_memFollows s _ 11
  | hRet => exact returnTo_memFollows s 10
  | hRetCc cc =>
    rw [exec_mkRetCc, opRetCc]
    split
    · exact returnTo_memFollows s 11
    · exact .next hs
  | hRetn => exact exec_mkRetn s ▸ hs.returnFromInterrupt fun _ hw => .next hw
  | hReti => exact exec_mkReti s ▸ hs.returnFromInterrupt fun _ hw => hw.finishInService fun _ hw => .next hw
  | hPush x p => exact exec_mkPush x p s ▸ hs.push16 fun _ hw => .next hw
  | hPop x p => exact exec_mkPop x p s ▸ hs.pop16 fun v _ hw => .next (hw.setReg16af x p v)
  | hExSp x =>
    exact exec_mkExSp x s ▸ hs.memRead fun _ _ hw => hw.memRead fun _ _ hw => hw.memWrite fun _ hw =>
      hw.memWrite fun _ hw => .next (hw.setRegHL x _)
  | hRotR op r => exact exec_mkRotR op r s ▸ .next (hs.setF _ |>.setReg8 .none r _)
  | hRotM x op d =>
    exact exec_mkRotM x op d s ▸ hs.memRead fun _ _ hw => (hw.setF _).memWrite fun _ hw => .next hw
  | hBitR y r => exact exec_mkBitR y r s ▸ .next hs
  | hBitM x y d => exact exec_mkBitM x y d s ▸ hs.memRead fun _ _ hw => .next (hw.bitMemFlags x (ea x d s) _)
  | hResR y r => exact exec_mkResR y r s ▸ opPutBitR_memFollows s resBit y r
  | hResM x y d => exact exec_mkResM x y d s ▸ opPutBitM_memFollows s resBit x y d
  | hSetR y r => exact exec_mkSetR y r s ▸ opPutBitR_memFollows s setBit y r
  | hSetM x y d => exact exec_mkSetM x y d s ▸ opPutBitM_memFollows s setBit x y d
  | hInAN n => exact exec_mkInAN n s ▸ hs.ioRead fun _ _ hw => .next hw
  | hOutNA n => exact exec_mkOutNA n s ▸ hs.ioWrite fun _ hw => .next hw
  | hInR r => exact exec_mkInR r s ▸ hs.ioRead fun v _ hw => .next (hw.setF _ |>.setReg8 .none r v)
  | hOutR r => exact exec_mkOutR r s ▸ hs.ioWrite fun _ hw => .next hw
  | hLdi | hLdd | hLdir | hLddr => exact opCopy_memFollows s _ _
  | hCpi | hCpd | hCpir | hCpdr => exact opCompare_memFollows s _ _
  | hIni | hInd | hInir | hIndr => exact opInput_memFollows s _ _
  | hOuti | hOutd | hOtir | hOtdr => exact opOutput_memFollows s _ _

/-! ### The parts of a step -/

section
variable {s u : State} (hu : MemFollows s u)
include hu

theorem MemFollows.runInstr (i : Instr) (passT : Nat) : Ends (MemFollows s) (runInstr i passT u) := by
  intro t ht
  obtain ⟨v, hv, rfl⟩ := runInstr_next ht
  exact hu.trans (exec_memFollows i u v hv)

/-- The fetch logs its reads and stores nothing. -/
theorem MemFollows.fetchTree (d : Dec) (passT : Nat) (bytes : List Byte) :
    Ends (MemFollows s) (fetchTree d passT bytes u Machine.runInstr) := by
  induction d generalizing passT bytes u with
  | done i => exact hu.runInstr i passT
  | unknown => exact .raise _ _
  | pass next ih => exact ih hu (passT + 4) bytes
  | more m1 next ih => exact hu.memRead fun b _ hw => ih b (hw.fetched m1) passT (bytes ++ [b])

theorem MemFollows.haltOrExecute : Ends (MemFollows s) (haltOrExecute u) := by
  intro t ht
  obtain ⟨-, rfl⟩ | ⟨-, he⟩ := haltOrExecute_next ht
  · exact hu
  · exact MemFollows.fetchTree (u := { u with start := u.pc }) hu decoder 0 [] t he

variable {Q : State → Prop} {k : State → Out} (hk : ∀ w, MemFollows s w → Ends Q (k w))
include hk

/-- An acceptance logs the call to the source, the push of PC and the reads of the table (60_exceptions.md R493). -/
theorem MemFollows.acceptInterrupt (src : Source) : Ends Q (acceptInterrupt src u k) := by
  unfold Machine.acceptInterrupt
  split
  · refine MemFollows.callAcceptInterrupt (u := { u with iff1 := false, iff2 := false }) hu fun v w hw => ?_
    split
    · split
      · exact hw.pushAndEnter hk
      · exact .raise _ _
    · exact hw.pushAndEnter hk
    · exact MemFollows.push16 (u := { w with halted := false }) hw fun w hw => hw.memRead2 fun target w hw =>
        hk (enterHandler target src.handle 19 w) hw
  · exact .raise _ _

/-- The interrupt check logs the question to the registry and what an acceptance logs (60_exceptions.md R491, R492). -/
theorem MemFollows.interruptCheck : Ends Q (interruptCheck u k) := by
  unfold Machine.interruptCheck
  split
  · exact hk { u with eiDiDelay := false } hu
  · split
    · refine hu.getPendingSource fun o w hw => ?_
      cases o with
      | none => exact hk w hw
      | some src => exact hw.acceptInterrupt hk src
    · exact hk u hu

end

/-- Settles O21: the interrupt check, the fetch and the instruction each change memory by their logged writes alone. -/
theorem memoryFollowsTheLog : Obligations.MemoryFollowsTheLog := by
  intro s t h
  obtain ⟨-, hbody⟩ := step_next h
  have hstart : MemFollows s { s with start := s.pc } := .refl s
  exact hstart.interruptCheck (fun _ hw => hw.haltOrExecute) t hbody

end Sys2Proof.Machine
end

section
/-! SUPPORT. The stack: a pop gives back the word just pushed (20_memory.md R66, R67), and a pair written with its own
value stays (10_state.md R31, R45). -/

namespace Sys2Proof.Machine

/-! ### The bytes of a push -/

theorem State.pushed_read_high {s : State} (h : s.mem.wf = true) (v : Word) :
    (s.pushed v).mem.read (s.sp - 1) = hiByte v := by
  have hne : s.sp - 1 ≠ s.sp - 1 - 1 := by bv_omega
  exact (Memory.read_write_other (Memory.wf_write h _ _) hne _).trans (Memory.read_write_same h _ _)

theorem State.pushed_read_low {s : State} (h : s.mem.wf = true) (v : Word) :
    (s.pushed v).mem.read (s.sp - 1 - 1) = loByte v :=
  Memory.read_write_same (Memory.wf_write h _ _) _ _

/-- The word at SP after a push is the word pushed, wherever the stack lies. -/
theorem State.pushed_top {s : State} (h : s.mem.wf = true) (v : Word) :
    mkWord ((s.pushed v).mem.read ((s.pushed v).sp + 1)) ((s.pushed v).mem.read (s.pushed v).sp) = v := by
  have hsp : (s.pushed v).sp + 1 = s.sp - 1 := BitVec.sub_add_cancel _ _
  rw [hsp, State.pushed_read_high h, show (s.pushed v).sp = s.sp - 1 - 1 from rfl, State.pushed_read_low h,
    mkWord_hiByte_loByte]

/-! ### PUSH, POP and the pairs -/

/-- What a PUSH that completes has done. -/
theorem exec_mkPush_next {x : Ctx} {p : Rp2} {s t : State} (h : exec (mkPush x p) s = .next t) :
    t = { s.pushed (reg16af x p s) with
      adapterErrs := s.adapterErrs.tail.tail, tstates := s.tstates + (11 + halfT x p.isHL) } := by
  rw [exec_mkPush] at h
  cases push16_next h
  rfl

/-- What a POP that completes has done. -/
theorem exec_mkPop_next {x : Ctx} {p : Rp2} {s t : State} (h : exec (mkPop x p) s = .next t) :
    t = State.addT (10 + halfT x p.isHL) (setReg16af x p (mkWord (s.mem.read (s.sp + 1)) (s.mem.read s.sp))
      { s.popped with adapterErrs := s.adapterErrs.tail.tail }) := by
  rw [exec_mkPop] at h
  cases pop16_next h
  rfl

/-- A pair written with the value it holds stays; for AF, because the flag byte gives the eight flags back. -/
theorem setReg16af_reg16af (x : Ctx) (p : Rp2) (s : State) : setReg16af x p (reg16af x p s) s = s := by
  cases p with
  | bc => simp [setReg16af, reg16af, State.setBC, State.bc]
  | de => simp [setReg16af, reg16af, State.setDE, State.de]
  | hl => cases x <;> simp [setReg16af, reg16af, setRegHL, regHL, State.setHL, State.hl]
  | af => simp [setReg16af, reg16af, State.setAFWord, State.af, Flags.ofByte_toByte]

/-- A POP of the word its pair already holds changes no register but SP. -/
theorem exec_mkPop_next_of_held {x : Ctx} {p : Rp2} {s t : State} (h : exec (mkPop x p) s = .next t)
    (hheld : mkWord (s.mem.read (s.sp + 1)) (s.mem.read s.sp) = reg16af x p s) :
    t = State.addT (10 + halfT x p.isHL) { s.popped with adapterErrs := s.adapterErrs.tail.tail } := by
  rw [exec_mkPop_next h, hheld]
  exact congrArg (State.addT _) (setReg16af_reg16af x p { s.popped with adapterErrs := s.adapterErrs.tail.tail })

/-- Settles O50: POP reads the word PUSH stored and writes it to the pair, which still holds it; neither changes any
other pair. -/
theorem popUndoesPush : Obligations.PopUndoesPush := by
  intro x p s t u hwf hpush hpop
  have ht := exec_mkPush_next hpush
  have hheld : mkWord (t.mem.read (t.sp + 1)) (t.mem.read t.sp) = reg16af x p t := by
    rw [ht]
    exact State.pushed_top hwf (reg16af x p s)
  have hu := exec_mkPop_next_of_held hpop hheld
  have hpushed : ∀ y q, reg16af y q t = reg16af y q s := by
    rw [ht]
    exact fun _ _ => rfl
  have hpopped : ∀ y q, reg16af y q u = reg16af y q t := by
    rw [hu]
    exact fun _ _ => rfl
  have hsp : u.sp = s.sp := by
    rw [hu, ht]
    change s.sp - 1 - 1 + 1 + 1 = s.sp
    rw [BitVec.sub_add_cancel, BitVec.sub_add_cancel]
  have hregs : ∀ y q, reg16af y q u = reg16af y q s := fun y q => (hpopped y q).trans (hpushed y q)
  exact ⟨hregs x p, hsp, hregs⟩

end Sys2Proof.Machine
end

section
/-! SUPPORT. Encoding and decoding (30_encoding.md R91 to R98, 47_index_prefix.md R420 to R430). `TableCell` says what
one cell of a table is: an instruction spelt as the bytes that lead to it, or the fault. It is checked once for every
cell; what decoding does then follows by one case split on the first opcode bytes. -/

namespace Sys2Proof

open Sys2Proof.Machine

/-! ### The decoding of an encoding -/

/-- R98: an immediate word is put together again from its two bytes. -/
theorem decode_word (mk : Word → Instr) (nn : Word) {bs rest : List Byte}
    (h : decode bs = .instr (mk (mkWord (hiByte nn) (loByte nn))) 0 rest) : decode bs = .instr (mk nn) 0 rest := by
  rwa [mkWord_hiByte_loByte] at h

/-- Settles O13: for each family the decoder's walk along the encoding is evaluated at every register, condition and
context; the operand bytes stay variables, and a word is put together again by `decode_word`. -/
theorem decodeOfEncode : Obligations.DecodeOfEncode := by
  intro i rest
  induction i using instr_families with
  | hLdNnA nn => exact decode_word .ld_mnn_A nn rfl
  | hLdANn nn => exact decode_word .ld_A_mnn nn rfl
  | hJp nn => exact decode_word .jp_nn nn rfl
  | hCall nn => exact decode_word .call_nn nn rfl
  | hLdRpNn x p nn => exact decode_word (mkLdRpNn x p) nn (by cases x <;> cases p <;> rfl)
  | hLdNnHl x nn => exact decode_word (mkLdNnHl x) nn (by cases x <;> rfl)
  | hLdHlNn x nn => exact decode_word (mkLdHlNn x) nn (by cases x <;> rfl)
  | hLdNnRp p nn => exact decode_word (mkLdNnRp p) nn (by cases p <;> rfl)
  | hLdRpNnMem p nn => exact decode_word (mkLdRpNnMem p) nn (by cases p <;> rfl)
  | hJpCc cc nn => exact decode_word (mkJpCc cc) nn (by cases cc <;> rfl)
  | hCallCc cc nn => exact decode_word (mkCallCc cc) nn (by cases cc <;> rfl)
  | hLdRR x dst src => cases x <;> cases dst <;> cases src <;> rfl
  | hAluR x op r => cases x <;> cases op <;> cases r <;> rfl
  | hLdRM x r _ | hLdMR x r _ | hLdRN x r _ | hIncR x r | hDecR x r => cases x <;> cases r <;> rfl
  | hAluM x op _ | hRotM x op _ => cases x <;> cases op <;> rfl
  | hAddHl x p | hIncRp x p | hDecRp x p | hPush x p | hPop x p => cases x <;> cases p <;> rfl
  | hBitM x y _ | hResM x y _ | hSetM x y _ => cases x <;> cases y <;> rfl
  | hLdMN x _ _ | hIncM x _ | hDecM x _ | hLdSpHl x | hJpHl x | hExSp x => cases x <;> rfl
  | hRotR op r => cases op <;> cases r <;> rfl
  | hBitR y r | hResR y r | hSetR y r => cases y <;> cases r <;> rfl
  | hInR r | hOutR r => cases r <;> rfl
  | hAluN op _ => cases op <;> rfl
  | hAdcHl p | hSbcHl p => cases p <;> rfl
  | hJrCc cc _ => cases cc <;> rfl
  | hRetCc cc => cases cc <;> rfl
  | hRst y => cases y <;> rfl
  | hIm m => cases m <;> rfl
  | _ => rfl

/-- Settles O17: fifteen words are encodings, by `decodeOfEncode`; HALT after DD and the three faults are evaluated. -/
theorem sampleEncodings : Obligations.SampleEncodings :=
  ⟨decodeOfEncode .ld_A_B [], decodeOfEncode (.ld_HL_nn 0x1234) [], decodeOfEncode (.add_A_n 0x03) [],
    decodeOfEncode (.jr_C_e 0x10) [], decodeOfEncode (.call_NZ_nn 0x2000) [], decodeOfEncode .rst_28H [],
    decodeOfEncode (.out_pn_A 0xFE) [], decodeOfEncode .bit_7_A [], decodeOfEncode (.ld_mnn_BC 0x4000) [],
    decodeOfEncode .reti [], decodeOfEncode .ldir [], decodeOfEncode (.ld_mIXd_n 0x05 0xAA) [],
    decodeOfEncode .ld_IYh_IYl [], decodeOfEncode (.ld_H_mIXd 0x02) [], decodeOfEncode (.set_7_mIYd 0xFF) [],
    rfl, rfl, rfl, rfl⟩

/-! ### Trees that spell their instructions -/

/-- The tree fetches at most `n` operand bytes, by `FetchByte()`, and ends in an instruction, which is encoded as `pre`
and then those bytes. -/
def Dec.Spells : Dec → Nat → List Byte → Prop
  | .done i, _, pre => encode i = pre
  | .more false next, n + 1, pre => ∀ b, (next b).Spells n (pre ++ [b])
  | _, _, _ => False

theorem Dec.Spells.more_inv {m1 : Bool} {next : Byte → Dec} {n : Nat} {pre : List Byte}
    (h : (Dec.more m1 next).Spells n pre) :
    ∃ k, n = k + 1 ∧ m1 = false ∧ ∀ b, (next b).Spells k (pre ++ [b]) := by
  cases m1 with
  | true => cases h
  | false =>
    cases n with
    | zero => cases h
    | succ k => exact ⟨k, rfl, rfl, h⟩

theorem Dec.spells_word {pre : List Byte} {mk : Word → Instr}
    (h : ∀ nn, encode (mk nn) = pre ++ [loByte nn, hiByte nn]) : (fetchWord fun nn => .done (mk nn)).Spells 2 pre := by
  intro lo hi
  have hspelt := h (mkWord hi lo)
  rwa [loByte_mkWord, hiByte_mkWord, List.append_cons] at hspelt

/-- What the tree decodes is spelt by the bytes, and no T-states are added. -/
theorem Dec.Spells.run {d : Dec} {n : Nat} {pre : List Byte} (hd : d.Spells n pre) {passT p : Nat}
    {fetched bs rest : List Byte} {i : Instr} (h : d.run passT fetched bs = .instr i p rest) :
    p = passT ∧ pre ++ bs = encode i ++ rest := by
  induction d generalizing pre n fetched bs with
  | done j =>
    cases h
    exact ⟨rfl, congrArg (· ++ rest) hd.symm⟩
  | unknown => cases hd
  | pass next => cases hd
  | more m1 next ih =>
    obtain ⟨k, rfl, rfl, hnext⟩ := hd.more_inv
    cases bs with
    | nil => cases h
    | cons b bs =>
      rw [List.append_cons]
      exact ih b (hnext b) h

theorem Dec.Spells.exists_instr {d : Dec} {n : Nat} {pre : List Byte} (hd : d.Spells n pre) (passT : Nat)
    (fetched : List Byte) {bs : List Byte} (hn : n ≤ bs.length) :
    ∃ i p rest, d.run passT fetched bs = .instr i p rest := by
  induction d generalizing pre n fetched bs with
  | done j => exact ⟨j, passT, bs, rfl⟩
  | unknown => cases hd
  | pass next => cases hd
  | more m1 next ih =>
    obtain ⟨k, rfl, rfl, hnext⟩ := hd.more_inv
    cases bs with
    | nil => cases hn
    | cons b bs => exact ih b (hnext b) _ (Nat.le_of_succ_le_succ hn)

/-- R after the opcode fetches on the tree's way along the bytes (10_state.md R36). -/
def Dec.countR : Dec → List Byte → Byte → Byte
  | .more m1 next, b :: bs, r => (next b).countR bs (if m1 then nextR r else r)
  | .pass next, bs, r => next.countR bs r
  | _, _, r => r

/-- Operand bytes do not count. -/
theorem Dec.Spells.countR {d : Dec} {n : Nat} {pre : List Byte} (hd : d.Spells n pre) (bs : List Byte) (r : Byte) :
    d.countR bs r = r := by
  induction d generalizing pre n bs with
  | done j => rfl
  | unknown => rfl
  | pass next => cases hd
  | more m1 next ih =>
    obtain ⟨k, rfl, rfl, hnext⟩ := hd.more_inv
    cases bs with
    | nil => rfl
    | cons b bs => exact ih b (hnext b) bs

/-! ### The cells of the tables -/

/-- A cell of a table: spelt as `pre` and at most `n` operand bytes where it is admitted, the fault where it is not. -/
def TableCell (admits : Bool) (pre : List Byte) (n : Nat) (d : Dec) : Prop :=
  match admits with
  | true => d.Spells n pre
  | false => d = .unknown

theorem TableCell.of_unknown (pre : List Byte) (n : Nat) : TableCell false pre n .unknown := rfl

theorem TableCell.run {admits : Bool} {pre : List Byte} {n : Nat} {d : Dec} (hd : TableCell admits pre n d)
    {passT p : Nat} {fetched bs rest : List Byte} {i : Instr} (h : d.run passT fetched bs = .instr i p rest) :
    p = passT ∧ pre ++ bs = encode i ++ rest := by
  cases admits with
  | true => exact Dec.Spells.run hd h
  | false =>
    obtain rfl : d = .unknown := hd
    cases h

/-- With bytes enough for the operands, a cell answers an instruction or reports what was fetched. -/
theorem TableCell.decides {admits : Bool} {pre : List Byte} {n : Nat} {d : Dec} (hd : TableCell admits pre n d)
    (passT : Nat) (fetched : List Byte) {bs : List Byte} (hn : n ≤ bs.length) :
    ((∃ i p rest, d.run passT fetched bs = .instr i p rest) ↔ admits = true) ∧
    (admits = false → d.run passT fetched bs = .unknownOpcode fetched) := by
  cases admits with
  | true => exact ⟨iff_of_true (Dec.Spells.exists_instr hd passT fetched hn) rfl, nofun⟩
  | false =>
    obtain rfl : d = .unknown := hd
    exact ⟨iff_of_false nofun nofun, fun _ => rfl⟩

theorem TableCell.countR {admits : Bool} {pre : List Byte} {n : Nat} {d : Dec} (hd : TableCell admits pre n d)
    (bs : List Byte) (r : Byte) : d.countR bs r = r := by
  cases admits with
  | true => exact Dec.Spells.countR hd bs r
  | false =>
    obtain rfl : d = .unknown := hd
    rfl

/-- The opcode byte with the fields x, y and z (R91). -/
def opByte (q : Nat) (y z : Idx8) : Byte := BitVec.ofNat 8 (64 * q + 8 * y.toNat + z.toNat)

theorem exists_opByte (op : Byte) :
    ∃ y z, op = opByte 0 y z ∨ op = opByte 1 y z ∨ op = opByte 2 y z ∨ op = opByte 3 y z := by
  refine ⟨tableIdx (fieldY op), tableIdx (fieldZ op), ?_⟩
  revert op
  decide

/-- The context an opcode runs under: none where it does not use HL (47_index_prefix.md R425). -/
def Ctx.over (x : Ctx) (op : Byte) : Ctx := if usesHL op then x else .none

theorem Ctx.over_none (op : Byte) : Ctx.none.over op = .none := ite_self _

/-- The byte that sets the context, if any (47_index_prefix.md R420). -/
def Ctx.bytes : Ctx → List Byte
  | .none => []
  | .ix => [0xDD]
  | .iy => [0xFD]

/-- The cell of the opcode in the base table, under the context it runs under. -/
def BaseCell (x : Ctx) (op : Byte) : Prop :=
  TableCell (!startsTwo op) ((x.over op).bytes ++ [op]) 2 (decodeBase (x.over op) op)

/-- Row by row, z first. In the rows 4 to 6 the cell y = 6 is the memory operand, which has a displacement under IX or
IY. -/
theorem baseCell_x0 (x : Ctx) (y z : Idx8) : BaseCell x (opByte 0 y z) := by
  cases z with
  | i0 =>
    cases y with
    | i0 | i1 => exact rfl
    | _ => exact fun _ => rfl
  | i1 =>
    cases y with
    | i0 | i2 | i6 => exact Dec.spells_word fun _ => rfl
    | i4 => cases x <;> exact Dec.spells_word fun _ => rfl
    | _ => cases x <;> exact rfl
  | i2 =>
    cases y with
    | i4 | i5 => cases x <;> exact Dec.spells_word fun _ => rfl
    | i6 | i7 => exact Dec.spells_word fun _ => rfl
    | _ => exact rfl
  | i3 => cases y <;> cases x <;> exact rfl
  | i4 | i5 =>
    cases y with
    | i6 =>
      cases x with
      | none => exact rfl
      | _ => exact fun _ => rfl
    | _ => cases x <;> exact rfl
  | i6 =>
    cases y with
    | i6 =>
      cases x with
      | none => exact fun _ => rfl
      | _ => exact fun _ _ => rfl
    | _ => cases x <;> exact fun _ => rfl
  | i7 => cases y <;> exact rfl

/-- Index 6 is the memory operand, on either side; in both places it is HALT. -/
theorem baseCell_x1 (x : Ctx) (y z : Idx8) : BaseCell x (opByte 1 y z) := by
  cases x with
  | none => cases y <;> cases z <;> exact rfl
  | _ =>
    cases y with
    | i6 =>
      cases z with
      | i6 => exact rfl
      | _ => exact fun _ => rfl
    | _ =>
      cases z with
      | i6 => exact fun _ => rfl
      | _ => exact rfl

theorem baseCell_x2 (x : Ctx) (y z : Idx8) : BaseCell x (opByte 2 y z) := by
  cases x with
  | none => cases y <;> cases z <;> exact rfl
  | _ =>
    cases z with
    | i6 => cases y <;> exact fun _ => rfl
    | _ => cases y <;> exact rfl

/-- The cells CB (z = 3), DD, ED and FD (z = 5) are the four that start a longer opcode. -/
theorem baseCell_x3 (x : Ctx) (y z : Idx8) : BaseCell x (opByte 3 y z) := by
  cases z with
  | i0 | i7 => cases y <;> exact rfl
  | i1 => cases x <;> cases y <;> exact rfl
  | i2 | i4 => cases y <;> exact Dec.spells_word fun _ => rfl
  | i3 =>
    cases y with
    | i0 => exact Dec.spells_word fun _ => rfl
    | i2 | i3 => exact fun _ => rfl
    | _ => cases x <;> exact rfl
  | i5 =>
    cases y with
    | i1 => exact Dec.spells_word fun _ => rfl
    | _ => cases x <;> exact rfl
  | i6 => cases y <;> exact fun _ => rfl

theorem baseCell (x : Ctx) (op : Byte) : BaseCell x op := by
  obtain ⟨y, z, rfl | rfl | rfl | rfl⟩ := exists_opByte op
  · exact baseCell_x0 x y z
  · exact baseCell_x1 x y z
  · exact baseCell_x2 x y z
  · exact baseCell_x3 x y z

theorem decodeBase_none_cell {op : Byte} (hop : startsTwo op = false) :
    TableCell true [op] 2 (decodeBase .none op) := by
  have hcell := baseCell .none op
  rwa [BaseCell, hop, Ctx.over_none] at hcell

theorem decodeBase_index_cell {x : Ctx} {b op : Byte} (hx : x.bytes = [b]) (hop : startsTwo op = false)
    (hu : usesHL op = true) : TableCell true [b, op] 2 (decodeBase x op) := by
  have hcell := baseCell x op
  rwa [BaseCell, hop, Ctx.over, if_pos hu, hx] at hcell

theorem decodeCB_cell (op : Byte) : TableCell (admittedCB op) [0xCB, op] 0 (decodeCB op) := by
  obtain ⟨y, z, rfl | rfl | rfl | rfl⟩ := exists_opByte op <;> cases y <;> cases z <;> exact rfl

/-- Only x = 1 with z = 3 has operands, an address. -/
theorem decodeED_cell (op : Byte) : TableCell (admittedED op) [0xED, op] 2 (decodeED op) := by
  obtain ⟨y, z, rfl | rfl | rfl | rfl⟩ := exists_opByte op
  · cases y <;> cases z <;> exact rfl
  · cases z with
    | i3 => cases y <;> exact Dec.spells_word fun _ => rfl
    | _ => cases y <;> exact rfl
  · cases y <;> cases z <;> exact rfl
  · cases y <;> cases z <;> exact rfl

theorem decodeIndexedCB_cell {x : Ctx} {b : Byte} (hx : x.bytes = [b]) (d op : Byte) :
    TableCell (admittedIndexedCB op) [b, 0xCB, d, op] 0 (decodeIndexedCB x d op) := by
  cases x with
  | none => cases hx
  | _ =>
    cases hx
    obtain ⟨y, z, rfl | rfl | rfl | rfl⟩ := exists_opByte op <;> cases y <;> cases z <;> exact rfl

/-! ### The first opcode bytes -/

/-- The decoder's tree after the first opcode byte. -/
def afterFirst (b : Byte) : Dec :=
  if b = 0xCB then fetchOp decodeCB
  else if b = 0xED then fetchOp decodeED
  else if b = 0xDD then decodeIndexed .ix
  else if b = 0xFD then decodeIndexed .iy
  else decodeBase .none b

theorem decoder_eq : decoder = fetchOp afterFirst := rfl

/-- The decoder's tree after DD or FD and one byte more. -/
def afterIndex (x : Ctx) (op : Byte) : Dec :=
  if op = 0xCB then fetchByte fun d => fetchByte fun op => decodeIndexedCB x d op
  else if op = 0xDD ∨ op = 0xFD ∨ op = 0xED ∨ op = 0xEB ∨ op = 0xD9 then .unknown
  else if usesHL op then decodeBase x op
  else .pass (decodeBase .none op)

theorem decodeIndexed_eq (x : Ctx) : decodeIndexed x = fetchOp (afterIndex x) := rfl

theorem startsTwo_eq_false {b : Byte} : startsTwo b = false ↔ b ≠ 0xCB ∧ b ≠ 0xDD ∧ b ≠ 0xED ∧ b ≠ 0xFD := by
  simp [startsTwo, and_assoc]

/-- A first byte is CB, ED, the byte of a context, or an opcode by itself. -/
theorem first_byte_cases (b : Byte) :
    b = 0xCB ∨ b = 0xED ∨ (∃ x : Ctx, x.bytes = [b]) ∨ startsTwo b = false := by
  by_cases hb : startsTwo b = false
  · exact .inr (.inr (.inr hb))
  · simp only [startsTwo, Bool.or_eq_false_iff, decide_eq_false_iff_not, not_and_or, not_not] at hb
    obtain ((hcb | rfl) | hed) | rfl := hb
    · exact .inl hcb
    · exact .inr (.inr (.inl ⟨.ix, rfl⟩))
    · exact .inr (.inl hed)
    · exact .inr (.inr (.inl ⟨.iy, rfl⟩))

theorem Ctx.bytes_eq {x : Ctx} {b : Byte} (hx : x.bytes = [b]) : x = .ix ∧ b = 0xDD ∨ x = .iy ∧ b = 0xFD := by
  cases x with
  | none => cases hx
  | ix =>
    cases hx
    exact .inl ⟨rfl, rfl⟩
  | iy =>
    cases hx
    exact .inr ⟨rfl, rfl⟩

section

variable {x : Ctx} {b : Byte} (hx : x.bytes = [b])
include hx

theorem index_byte : b = 0xDD ∨ b = 0xFD := (Ctx.bytes_eq hx).imp And.right And.right

theorem startsTwo_index : startsTwo b = true := by
  obtain ⟨rfl, rfl⟩ | ⟨rfl, rfl⟩ := Ctx.bytes_eq hx <;> rfl

theorem afterFirst_index : afterFirst b = fetchOp (afterIndex x) := by
  obtain ⟨rfl, rfl⟩ | ⟨rfl, rfl⟩ := Ctx.bytes_eq hx <;> exact decodeIndexed_eq _

theorem decode_index (op : Byte) (bs : List Byte) : decode (b :: op :: bs) = (afterIndex x op).run 0 [b, op] bs := by
  obtain ⟨rfl, rfl⟩ | ⟨rfl, rfl⟩ := Ctx.bytes_eq hx <;> rfl

theorem decode_index_alone : decode [b] = .truncated := by
  obtain ⟨rfl, rfl⟩ | ⟨rfl, rfl⟩ := Ctx.bytes_eq hx <;> rfl

theorem admitted_index {op : Byte} (hop : op ≠ 0xCB) (bs : List Byte) :
    admitted (b :: op :: bs) = admittedIndex op := by
  obtain ⟨rfl, rfl⟩ | ⟨rfl, rfl⟩ := Ctx.bytes_eq hx <;> exact if_neg hop

theorem admitted_indexedCB (d op : Byte) (bs : List Byte) :
    admitted (b :: 0xCB :: d :: op :: bs) = admittedIndexedCB op := by
  obtain ⟨rfl, rfl⟩ | ⟨rfl, rfl⟩ := Ctx.bytes_eq hx <;> rfl

end

theorem afterFirst_base {b : Byte} (hb : startsTwo b = false) : afterFirst b = decodeBase .none b := by
  obtain ⟨hcb, hdd, hed, hfd⟩ := startsTwo_eq_false.mp hb
  rw [afterFirst, if_neg hcb, if_neg hed, if_neg hdd, if_neg hfd]

theorem decode_base {b : Byte} (hb : startsTwo b = false) (bs : List Byte) :
    decode (b :: bs) = (decodeBase .none b).run 0 [b] bs := by
  rw [decode, decoder_eq, ← afterFirst_base hb]
  rfl

theorem admitted_base {b : Byte} (hb : startsTwo b = false) (bs : List Byte) : admitted (b :: bs) = true := by
  obtain ⟨hcb, hdd, hed, hfd⟩ := startsTwo_eq_false.mp hb
  exact (if_neg hcb).trans ((if_neg hed).trans (if_neg (not_or.mpr ⟨hdd, hfd⟩)))

theorem admittedIndex_eq_false (op : Byte) :
    admittedIndex op = false ↔ op = 0xDD ∨ op = 0xFD ∨ op = 0xED ∨ op = 0xEB ∨ op = 0xD9 := by
  revert op
  decide

/-- After DD or FD a byte other than CB is a fault (R426), an opcode under the context, or a pass-through opcode
(R425). -/
theorem afterIndex_cases (x : Ctx) {op : Byte} (hcb : op ≠ 0xCB) :
    (admittedIndex op = false ∧ afterIndex x op = .unknown) ∨
    (admittedIndex op = true ∧ startsTwo op = false ∧
      (usesHL op = true ∧ afterIndex x op = decodeBase x op ∨
        usesHL op = false ∧ afterIndex x op = .pass (decodeBase .none op))) := by
  rw [afterIndex, if_neg hcb]
  by_cases hr : op = 0xDD ∨ op = 0xFD ∨ op = 0xED ∨ op = 0xEB ∨ op = 0xD9
  · exact .inl ⟨(admittedIndex_eq_false op).mpr hr, if_pos hr⟩
  · rw [if_neg hr]
    refine .inr ⟨by rwa [← Bool.not_eq_false, admittedIndex_eq_false], ?_, ?_⟩
    · simp only [not_or] at hr
      obtain ⟨hdd, hfd, hed, -, -⟩ := hr
      exact startsTwo_eq_false.mpr ⟨hcb, hdd, hed, hfd⟩
    · cases usesHL op with
      | false => exact .inr ⟨rfl, rfl⟩
      | true => exact .inl ⟨rfl, rfl⟩

/-! ### What decodes -/

theorem encode_of_decode_index {x : Ctx} {b : Byte} (hx : x.bytes = [b]) {bs rest : List Byte} {i : Instr}
    {passT : Nat} (h : decode (b :: bs) = .instr i passT rest) :
    (passT = 0 ∧ b :: bs = encode i ++ rest) ∨ (passT = 4 ∧ bs = encode i ++ rest) := by
  cases bs with
  | nil =>
    rw [decode_index_alone hx] at h
    cases h
  | cons op bs =>
    rw [decode_index hx] at h
    by_cases hcb : op = 0xCB
    · subst hcb
      match bs, h with
      | d :: op :: bs, h => exact .inl ((decodeIndexedCB_cell hx d op).run h)
    · obtain ⟨-, ht⟩ | ⟨-, hop, ⟨hu, ht⟩ | ⟨-, ht⟩⟩ := afterIndex_cases x hcb <;> rw [ht] at h
      · cases h
      · exact .inl ((decodeBase_index_cell hx hop hu).run h)
      · exact .inr ((decodeBase_none_cell hop).run h)

/-- Settles O14: the first opcode bytes lead to a cell of a table, which spells its instruction. -/
theorem encodeOfDecode : Obligations.EncodeOfDecode := by
  intro bs i passT rest h
  cases bs with
  | nil => cases h
  | cons b bs =>
    obtain rfl | rfl | ⟨x, hx⟩ | hb := first_byte_cases b
    · match bs, h with
      | op :: bs, h => exact .inl ((decodeCB_cell op).run h)
    · match bs, h with
      | op :: bs, h => exact .inl ((decodeED_cell op).run h)
    · exact (encode_of_decode_index hx h).imp_right fun ⟨hp, hbs⟩ => ⟨hp, b, index_byte hx, congrArg (b :: ·) hbs⟩
    · rw [decode_base hb] at h
      exact .inl ((decodeBase_none_cell hb).run h)

theorem decode_index_admits_exactly {x : Ctx} {b1 : Byte} (hx : x.bytes = [b1]) (b2 b3 b4 : Byte) :
    ((∃ i passT rest, decode [b1, b2, b3, b4] = .instr i passT rest) ↔ admitted [b1, b2, b3, b4] = true) ∧
    (admitted [b1, b2, b3, b4] = false → decode [b1, b2, b3, b4] =
      if b2 = 0xCB then .unknownOpcode [b1, b2, b3, b4] else .unknownOpcode [b1, b2]) := by
  rw [decode_index hx]
  by_cases hcb : b2 = 0xCB
  · subst hcb
    rw [admitted_indexedCB hx, if_pos rfl]
    exact (decodeIndexedCB_cell hx b3 b4).decides 0 _ (Nat.zero_le _)
  · rw [admitted_index hx hcb, if_neg hcb]
    obtain ⟨hr, ht⟩ | ⟨ha, hop, ⟨hu, ht⟩ | ⟨-, ht⟩⟩ := afterIndex_cases x hcb <;> rw [ht]
    · rw [hr]
      exact (TableCell.of_unknown [b1, b2] 0).decides 0 _ (Nat.zero_le _)
    · rw [ha]
      exact (decodeBase_index_cell hx hop hu).decides 0 _ (Nat.le_refl 2)
    · rw [ha]
      exact (decodeBase_none_cell hop).decides 4 _ (Nat.le_refl 2)

/-- Settles O16: the cell the first opcode bytes lead to answers an instruction exactly where it is admitted, and
four bytes are enough for its operands. -/
theorem decoderAdmitsExactly : Obligations.DecoderAdmitsExactly := by
  intro b1 b2 b3 b4
  obtain rfl | rfl | ⟨x, hx⟩ | hb := first_byte_cases b1
  · exact (decodeCB_cell b2).decides 0 [0xCB, b2] (bs := [b3, b4]) (Nat.zero_le _)
  · exact (decodeED_cell b2).decides 0 [0xED, b2] (Nat.le_refl 2)
  · simpa only [index_byte hx, true_and] using decode_index_admits_exactly hx b2 b3 b4
  · rw [admitted_base hb, decode_base hb]
    exact ⟨((decodeBase_none_cell hb).decides 0 _ (bs := [b2, b3, b4]) (Nat.le_succ 2)).1, nofun⟩

/-! ### How often R counts -/

theorem countR_fetchByte {next : Byte → Dec} {r : Byte} (h : ∀ b bs, (next b).countR bs r = r) (bs : List Byte) :
    (fetchByte next).countR bs r = r := by
  cases bs with
  | nil => rfl
  | cons b bs => exact h b bs

theorem afterIndex_countR {x : Ctx} {b : Byte} (hx : x.bytes = [b]) (op : Byte) (bs : List Byte) (r : Byte) :
    (afterIndex x op).countR bs r = r := by
  by_cases hcb : op = 0xCB
  · subst hcb
    exact countR_fetchByte (fun d => countR_fetchByte fun op bs => (decodeIndexedCB_cell hx d op).countR bs r) bs
  · obtain ⟨-, ht⟩ | ⟨-, hop, ⟨hu, ht⟩ | ⟨-, ht⟩⟩ := afterIndex_cases x hcb <;> rw [ht]
    · rfl
    · exact (decodeBase_index_cell hx hop hu).countR bs r
    · exact (decodeBase_none_cell hop).countR bs r

/-- 10_state.md R36, 47_index_prefix.md R431: the opcode bytes are the first and, after CB, DD, ED or FD, the second. -/
theorem decoder_countR (b b2 : Byte) (bs : List Byte) (r : Byte) :
    decoder.countR (b :: b2 :: bs) r = if startsTwo b then nextR (nextR r) else nextR r := by
  have hfirst : decoder.countR (b :: b2 :: bs) r = (afterFirst b).countR (b2 :: bs) (nextR r) := by
    rw [decoder_eq]
    rfl
  obtain rfl | rfl | ⟨x, hx⟩ | hb := first_byte_cases b
  · exact (decodeCB_cell b2).countR bs _
  · exact (decodeED_cell b2).countR bs _
  · rw [hfirst, afterFirst_index hx, if_pos (startsTwo_index hx)]
    exact afterIndex_countR hx b2 bs _
  · rw [hfirst, afterFirst_base hb, hb]
    exact (decodeBase_none_cell hb).countR _ _

end Sys2Proof
end

section
/-! SUPPORT. Fetching from memory is decoding the bytes at PC (30_encoding.md R90, R97, R101): `fetchTree` walks the
tree that `Dec.run` walks, and the state it passes on is `fetchedBytes`. -/

namespace Sys2Proof.Machine

theorem length_bytesAt (m : Memory) (a : Word) (n : Nat) : (bytesAt m a n).length = n := by
  induction n generalizing a with
  | zero => rfl
  | succ n ih => exact congrArg (· + 1) (ih _)

/-! ### One fetch -/

/-- The first `m` coming calls report no error (log 7). -/
def State.NoErrors (s : State) (m : Nat) : Prop := ∀ e ∈ s.adapterErrs.take m, e = none

theorem State.NoErrors.called {s : State} {m : Nat} (h : s.NoErrors (m + 1)) : s.called.NoErrors m := by
  cases hs : s.adapterErrs with
  | nil => simp [State.NoErrors, State.called, hs]
  | cons e es =>
    simp only [State.NoErrors, hs, List.take_succ_cons, List.forall_mem_cons] at h
    obtain ⟨-, htail⟩ := h
    simpa only [State.NoErrors, State.called, hs, List.tail_cons] using htail

theorem memRead_of_noErrors {s : State} {m : Nat} (h : s.NoErrors (m + 1)) (a : Word) (k : Byte → State → Out) :
    memRead a s k = k (s.mem.read a) (s.called.logged (.memRead a (s.mem.read a))) := by
  obtain ⟨err, es, he, -⟩ | ⟨-, hgo⟩ := adapterCall_cases s .mem .readByte (some a) id fun s =>
    k (s.mem.read a) (s.logged (.memRead a (s.mem.read a)))
  · cases h (some err) (by simp [he])
  · exact hgo

/-- The state after one byte has been fetched, as an opcode byte where `m1`. -/
def State.fetchedByte (m1 : Bool) (s : State) : State :=
  State.fetched m1 (s.called.logged (.memRead s.pc (s.mem.read s.pc)))

theorem State.fetchedByte_eq (m1 : Bool) (s : State) :
    s.fetchedByte m1 = { s with
      pc := s.pc + 1
      r := if m1 then nextR s.r else s.r
      trace := .memRead s.pc (s.mem.read s.pc) :: s.trace
      adapterErrs := s.adapterErrs.tail } :=
  State.fetched_eq m1 _

@[simp] theorem State.fetchedByte_pc (m1 : Bool) (s : State) : (s.fetchedByte m1).pc = s.pc + 1 := by
  rw [State.fetchedByte_eq]

@[simp] theorem State.fetchedByte_mem (m1 : Bool) (s : State) : (s.fetchedByte m1).mem = s.mem := by
  rw [State.fetchedByte_eq]

@[simp] theorem State.fetchedByte_start (m1 : Bool) (s : State) : (s.fetchedByte m1).start = s.start := by
  rw [State.fetchedByte_eq]

@[simp] theorem State.fetchedByte_r (m1 : Bool) (s : State) :
    (s.fetchedByte m1).r = if m1 then nextR s.r else s.r := by
  rw [State.fetchedByte_eq]

theorem State.NoErrors.fetchedByte {s : State} {m : Nat} (h : s.NoErrors (m + 1)) (m1 : Bool) :
    (s.fetchedByte m1).NoErrors m := by
  rw [State.fetchedByte_eq]
  exact h.called

theorem fetchTree_more {s : State} {m : Nat} (h : s.NoErrors (m + 1)) (m1 : Bool) (next : Byte → Dec) (passT : Nat)
    (fetched : List Byte) (k : Instr → Nat → State → Out) :
    fetchTree (.more m1 next) passT fetched s k =
      fetchTree (next (s.mem.read s.pc)) passT (fetched ++ [s.mem.read s.pc]) (s.fetchedByte m1) k :=
  memRead_of_noErrors h _ _

/-! ### All fetches of an instruction -/

/-- The state after `m` bytes have been fetched from PC on, with R at `r`. -/
def State.fetchedBytes (m : Nat) (r : Byte) (s : State) : State :=
  { s with
    pc := s.pc + BitVec.ofNat 16 m
    r := r
    trace := readsAt s.mem s.pc m ++ s.trace
    adapterErrs := s.adapterErrs.drop m }

theorem State.fetchedBytes_zero (s : State) : s.fetchedBytes 0 s.r = s := by
  simp [State.fetchedBytes, readsAt]

theorem State.fetchedBytes_succ (m1 : Bool) (m : Nat) (r : Byte) (s : State) :
    (s.fetchedByte m1).fetchedBytes m r = s.fetchedBytes (m + 1) r := by
  simp [State.fetchedByte_eq, State.fetchedBytes, readsAt, BitVec.ofNat_add, BitVec.add_assoc, BitVec.add_comm 1#16]

/-- What fetching along the tree does when the tree makes the given result of the next `n` bytes of memory: where no
fetch reports an error it goes on with the instruction, or raises UnknownOpcode with the bytes fetched. -/
def FetchesAs (d : Dec) (passT : Nat) (fetched : List Byte) (n : Nat) (s : State) : DecodeResult → Prop
  | .instr i p rest => ∃ m, m + rest.length = n ∧ (s.NoErrors m → ∀ k,
      fetchTree d passT fetched s k = k i p (s.fetchedBytes m (d.countR (bytesAt s.mem s.pc n) s.r)))
  | .unknownOpcode bytes => ∃ m, bytes = fetched ++ bytesAt s.mem s.pc m ∧ (s.NoErrors m → ∀ k,
      fetchTree d passT fetched s k =
        raise (.unknownOpcode s.start bytes) (s.fetchedBytes m (d.countR (bytesAt s.mem s.pc n) s.r)))
  | .truncated => True

/-- One byte first: what the tree after the byte does, the tree that fetches it does. -/
theorem FetchesAs.more {m1 : Bool} {next : Byte → Dec} {passT : Nat} {fetched : List Byte} {n : Nat} {s : State}
    {res : DecodeResult}
    (h : FetchesAs (next (s.mem.read s.pc)) passT (fetched ++ [s.mem.read s.pc]) n (s.fetchedByte m1) res) :
    FetchesAs (.more m1 next) passT fetched (n + 1) s res := by
  cases res with
  | truncated => trivial
  | instr i p rest =>
    obtain ⟨m, hm, hfetch⟩ := h
    refine ⟨m + 1, by omega, fun he k => ?_⟩
    rw [fetchTree_more he, hfetch (he.fetchedByte m1), State.fetchedBytes_succ, State.fetchedByte_pc,
      State.fetchedByte_mem, State.fetchedByte_r]
    rfl
  | unknownOpcode bytes =>
    obtain ⟨m, hm, hfetch⟩ := h
    refine ⟨m + 1, by simpa [bytesAt] using hm, fun he k => ?_⟩
    rw [fetchTree_more he, hfetch (he.fetchedByte m1), State.fetchedBytes_succ, State.fetchedByte_pc,
      State.fetchedByte_mem, State.fetchedByte_r, State.fetchedByte_start]
    rfl

theorem fetchTree_run (d : Dec) (passT : Nat) (fetched : List Byte) (n : Nat) (s : State) :
    FetchesAs d passT fetched n s (d.run passT fetched (bytesAt s.mem s.pc n)) := by
  induction d generalizing passT fetched n s with
  | done i =>
    exact ⟨0, by rw [length_bytesAt, Nat.zero_add], fun _ k => congrArg (k i passT) s.fetchedBytes_zero.symm⟩
  | unknown => exact ⟨0, (List.append_nil _).symm, fun _ _ => congrArg (raise _) s.fetchedBytes_zero.symm⟩
  | pass next ih => exact ih _ _ _ _
  | more m1 next ih =>
    cases n with
    | zero => trivial
    | succ n =>
      have hnext := ih (s.mem.read s.pc) passT (fetched ++ [s.mem.read s.pc]) n (s.fetchedByte m1)
      rw [State.fetchedByte_pc, State.fetchedByte_mem] at hnext
      exact hnext.more

/-- The decoder's own fetches, of four bytes at most. -/
theorem decoder_fetches (s : State) :
    FetchesAs decoder 0 [] 4 { s with start := s.pc } (decode (bytesAt s.mem s.pc 4)) :=
  fetchTree_run decoder 0 [] 4 { s with start := s.pc }

theorem fetchedBytes_decoder (s : State) (m : Nat) :
    State.fetchedBytes m (decoder.countR (bytesAt s.mem s.pc 4) s.r) { s with start := s.pc } =
      { s.afterFetch m with adapterErrs := s.adapterErrs.drop m } := by
  rw [bytesAt, bytesAt, decoder_countR]
  rfl

/-- Settles O23: the walk ends at the fault, with the bytes fetched on the way. -/
theorem unknownOpcodeFaults : Obligations.UnknownOpcodeFaults := by
  intro s bytes h he
  have hfetches := decoder_fetches s
  rw [h] at hfetches
  obtain ⟨m, hm, hfetch⟩ := hfetches
  obtain rfl : m = bytes.length := by rw [hm, List.nil_append, length_bytesAt]
  refine ⟨hm, ?_⟩
  rw [executeInstruction, hfetch he, fetchedBytes_decoder]
  rfl

/-! ### A step in which no interrupt check happens -/

theorem executeInstruction_of_decode {s : State} {i : Instr} {passT : Nat} {rest : List Byte}
    (h : decode (bytesAt s.mem s.pc 4) = .instr i passT rest) (he : s.NoErrors (4 - rest.length)) :
    executeInstruction s =
      runInstr i passT { s.afterFetch (4 - rest.length) with adapterErrs := s.adapterErrs.drop (4 - rest.length) } := by
  have hfetches := decoder_fetches s
  rw [h] at hfetches
  obtain ⟨m, hm, hfetch⟩ := hfetches
  obtain rfl : m = 4 - rest.length := by omega
  rw [← fetchedBytes_decoder]
  exact hfetch he runInstr

/-- Where the mark is down already, clearing it changes nothing. -/
theorem interruptCheck_of_noCheck {s : State} (h : s.noCheck) (k : State → Out) :
    interruptCheck s k = k { s with eiDiDelay := false } := by
  by_cases hd : s.eiDiDelay = true
  · rw [interruptCheck, if_pos hd]
  · have hsame : { s with eiDiDelay := false } = s := by rw [← Bool.eq_false_of_not_eq_true hd]
    have hoff : ¬ s.iff1 = true := Bool.eq_false_iff.mp (h.resolve_left hd)
    rw [interruptCheck, if_neg hd, if_neg hoff, hsame]

theorem haltOrExecute_of_running {s : State} (h : s.halted = false) : haltOrExecute s = executeInstruction s :=
  if_neg (Bool.eq_false_iff.mp h)

theorem step_of_no_fault {s : State} (h : s.fault = none) : step s = stepBody s := by
  rw [step, h]

theorem step_of_noCheck {s : State} (hf : s.fault = none) (hh : s.halted = false) (hn : s.noCheck) :
    step s = executeInstruction { s with start := s.pc, eiDiDelay := false } :=
  calc step s
    _ = stepBody s := step_of_no_fault hf
    _ = haltOrExecute { s with start := s.pc, eiDiDelay := false } :=
      interruptCheck_of_noCheck (s := { s with start := s.pc }) hn haltOrExecute
    _ = executeInstruction { s with start := s.pc, eiDiDelay := false } := haltOrExecute_of_running hh

/-- Settles O22: the fetch walks the tree the decoder walks, and the rest of the step is `runInstr`. -/
theorem stepRunsDecodedInstruction : Obligations.StepRunsDecodedInstruction := by
  refine ⟨?_, fun s => step_of_noCheck⟩
  intro s i passT rest h n he
  exact executeInstruction_of_decode h he

end Sys2Proof.Machine
end

section
/-! SUPPORT. The 8-bit and 16-bit sums and differences as integers, with their flags (40_alu.md R140 to R143, R148 to
R152). One argument serves every width: a word is read as a signed integer by its top bit, and a difference is the sum
with the complement. -/

namespace Sys2Proof.Machine

/-! ### Sign, zero and parity -/

/-- The top bit splits the words into those below `M`, half the range, which stand for themselves, and the negative
ones. -/
theorem signed_cases {w M : Nat} (hM : 2 ^ w = M) (x : BitVec (w + 1)) :
    (x.getLsbD w = false ∧ x.toNat < M ∧ x.toInt = x.toNat) ∨
    (x.getLsbD w = true ∧ M ≤ x.toNat ∧ x.toNat < 2 * M ∧ x.toInt = x.toNat - 2 * M) := by
  have hlt : x.toNat < 2 * M := by
    rw [← hM, ← Nat.pow_succ']
    exact x.isLt
  have hmsb : x.getLsbD w = decide (M ≤ x.toNat) := by
    rw [← hM]
    exact (BitVec.msb_eq_getLsbD_last x).symm.trans (BitVec.msb_eq_decide x)
  rw [BitVec.toInt_eq_toNat_cond, hmsb, Nat.pow_succ', hM]
  by_cases h : M ≤ x.toNat
  · rw [if_neg (by omega)]
    exact .inr ⟨decide_eq_true h, h, hlt, rfl⟩
  · rw [if_pos (by omega)]
    exact .inl ⟨decide_eq_false h, by omega, rfl⟩

theorem sign_iff {w : Nat} (r : BitVec (w + 1)) : r.getLsbD w = true ↔ r.toInt < 0 := by
  rw [← decide_eq_true_iff (p := r.toInt < 0), ← BitVec.msb_eq_toInt, BitVec.msb_eq_getLsbD_last]
  rfl

theorem zero_iff {w : Nat} (r : BitVec w) : decide (r = 0) = true ↔ r.toNat = 0 := by
  rw [decide_eq_true_iff, BitVec.toNat_eq]
  rfl

theorem onesIn_eq_popCount (v : Byte) : onesIn v = popCount v := by
  have hones : onesIn v = (List.range 8).countP (v.getLsbD ·) := List.countP_eq_length_filter.symm
  rw [hones]
  simp [List.range_succ, List.countP_cons, popCount, Bool.toNat, Bool.cond_eq_ite]
  omega

theorem parity_iff (v : Byte) : parity v = true ↔ onesIn v % 2 = 0 := by
  rw [parity, onesIn_eq_popCount, beq_iff_eq]

theorem toNat_topBit {w : Nat} (x : BitVec (w + 1)) : (x.getLsbD w).toNat = x.toNat / 2 ^ w := by
  have htop : x.toNat / 2 ^ w < 2 := Nat.div_lt_of_lt_mul x.isLt
  exact (Nat.toNat_testBit x.toNat w).trans (Nat.mod_eq_of_lt htop)

/-! ### Two's-complement overflow -/

/-- The sign rule: the sum leaves the signed range exactly when the operands have one sign and the result the other. -/
theorem sum_overflows_iff {w : Nat} {a b r : BitVec (w + 1)} {cin : Bool}
    (hr : r.toNat = (a.toNat + b.toNat + cin.toNat) % 2 ^ (w + 1)) :
    r.toInt ≠ a.toInt + b.toInt + (cin.toNat : Int) ↔
      a.getLsbD w = b.getLsbD w ∧ r.getLsbD w ≠ a.getLsbD w := by
  have hc : cin.toNat ≤ 1 := cin.toNat_le
  have ha := a.isLt
  have hb := b.isLt
  obtain ⟨M, hM⟩ : ∃ M, 2 ^ w = M := ⟨_, rfl⟩
  rw [Nat.pow_succ', hM] at hr ha hb
  have hwrap : r.toNat = a.toNat + b.toNat + cin.toNat ∨ r.toNat + 2 * M = a.toNat + b.toNat + cin.toNat := by
    by_cases h : a.toNat + b.toNat + cin.toNat < 2 * M
    · exact .inl (hr.trans (Nat.mod_eq_of_lt h))
    · rw [Nat.mod_eq_sub_mod (by omega), Nat.mod_eq_of_lt (by omega)] at hr
      omega
  obtain ⟨has, ha, hai⟩ | ⟨has, ha, ha', hai⟩ := signed_cases hM a <;>
  obtain ⟨hbs, hb, hbi⟩ | ⟨hbs, hb, hb', hbi⟩ := signed_cases hM b <;>
  obtain ⟨hrs, hrl, hri⟩ | ⟨hrs, hrl, hrl', hri⟩ := signed_cases hM r <;>
  · rw [has, hbs, hrs, hai, hbi, hri]
    simp
    omega

theorem toInt_not {w : Nat} (b : BitVec (w + 1)) : (~~~b).toInt = -b.toInt - 1 := by
  obtain ⟨M, hM⟩ : ∃ M, 2 ^ w = M := ⟨_, rfl⟩
  have hnot : (~~~b).toNat = 2 * M - 1 - b.toNat := by
    rw [BitVec.toNat_not, Nat.pow_succ', hM]
  obtain ⟨-, hb, hbi⟩ | ⟨-, hb, hb', hbi⟩ := signed_cases hM b <;>
  obtain ⟨-, hn, hni⟩ | ⟨-, hn, hn', hni⟩ := signed_cases hM (~~~b) <;> omega

/-- `a - b - cin` is `a + ~b + (1 - cin)`, narrowed. -/
theorem toNat_ofInt_difference {w : Nat} (a b : BitVec w) (cin : Bool) :
    (BitVec.ofInt w ((a.toNat : Int) - b.toNat - cin.toNat)).toNat =
      (a.toNat + (~~~b).toNat + (!cin).toNat) % 2 ^ w := by
  have hnot : (a.toNat : Int) - b.toNat - cin.toNat + (2 ^ w : Nat) =
      (a.toNat + (~~~b).toNat + (!cin).toNat : Nat) := by
    have hb := b.isLt
    rw [BitVec.toNat_not]
    generalize 2 ^ w = M at *
    cases cin <;> simp <;> omega
  rw [BitVec.toNat_ofInt, ← Int.add_emod_right, hnot]
  rfl

/-- The sign rule of a difference: that of the sum with the complement. -/
theorem difference_overflows_iff {w : Nat} (a b : BitVec (w + 1)) (cin : Bool) :
    let r := BitVec.ofInt (w + 1) ((a.toNat : Int) - b.toNat - cin.toNat)
    r.toInt ≠ a.toInt - b.toInt - (cin.toNat : Int) ↔ a.getLsbD w ≠ b.getLsbD w ∧ r.getLsbD w ≠ a.getLsbD w := by
  intro r
  have hsum := sum_overflows_iff (toNat_ofInt_difference a b cin)
  have hval : a.toInt + (~~~b).toInt + ((!cin).toNat : Int) = a.toInt - b.toInt - (cin.toNat : Int) := by
    rw [toInt_not]
    cases cin <;> simp <;> omega
  have hsign : (~~~b).getLsbD w = !b.getLsbD w := by
    rw [BitVec.getLsbD_not, decide_eq_true (Nat.lt_succ_self w), Bool.true_and]
  rwa [hval, hsign, Bool.eq_not] at hsum

theorem toNat_ofInt_cast (w : Nat) (t : Int) : ((BitVec.ofInt w t).toNat : Int) = t % (2 ^ w : Nat) := by
  rw [BitVec.toNat_ofInt]
  exact Int.toNat_of_nonneg (Int.emod_nonneg t (Int.natCast_ne_zero.mpr (Nat.two_pow_pos w).ne'))

/-! ### The sums and differences of 40_alu.md -/

/-- PV of a sum, as the ALU functions write it. -/
theorem sumSigns_iff {a b r : Bool} : (a == b && r != a) = true ↔ a = b ∧ r ≠ a := by
  rw [Bool.and_eq_true, beq_iff_eq, bne_iff_ne]

/-- PV of a difference, as the ALU functions write it. -/
theorem differenceSigns_iff {a b r : Bool} : (a != b && r != a) = true ↔ a ≠ b ∧ r ≠ a := by
  rw [Bool.and_eq_true, bne_iff_ne, bne_iff_ne]

section
variable (a b : Byte) (cin : Bool)

theorem toNat_add8 : (add8 a b cin).1.toNat = (a.toNat + b.toNat + cin.toNat) % 256 := BitVec.toNat_ofNat _ 8

theorem add8_h_iff : (add8 a b cin).2.h = true ↔ 15 < a.toNat % 16 + b.toNat % 16 + cin.toNat := decide_eq_true_iff

theorem add8_c_iff : (add8 a b cin).2.c = true ↔ 255 < a.toNat + b.toNat + cin.toNat := decide_eq_true_iff

theorem toNat_sub8 : ((sub8 a b cin).1.toNat : Int) = ((a.toNat : Int) - b.toNat - cin.toNat) % 256 :=
  toNat_ofInt_cast 8 _

theorem sub8_h_iff : (sub8 a b cin).2.h = true ↔ a.toNat % 16 < b.toNat % 16 + cin.toNat := decide_eq_true_iff

theorem sub8_c_iff : (sub8 a b cin).2.c = true ↔ (a.toNat : Int) - b.toNat - cin.toNat < 0 := decide_eq_true_iff

end

/-- Settles O2: PV is the sign rule as written, and so, by `sum_overflows_iff`, two's-complement overflow. -/
theorem addIsIntegerSum : Obligations.AddIsIntegerSum := by
  intro a b cin f t r g
  have hr : r.toNat = t % 256 := toNat_add8 a b cin
  have hpv : g.pv = true ↔ a.getLsbD 7 = b.getLsbD 7 ∧ r.getLsbD 7 ≠ a.getLsbD 7 := sumSigns_iff
  exact ⟨hr, sign_iff r, zero_iff r, add8_h_iff a b cin, hpv.trans (sum_overflows_iff hr).symm, hpv, rfl,
    add8_c_iff a b cin, rfl, rfl, rfl, rfl⟩

/-- Settles O3, by the sign rule of the difference. -/
theorem subIsIntegerDifference : Obligations.SubIsIntegerDifference := by
  intro a b cin f t r g
  have hpv : g.pv = true ↔ a.getLsbD 7 ≠ b.getLsbD 7 ∧ r.getLsbD 7 ≠ a.getLsbD 7 := differenceSigns_iff
  exact ⟨toNat_sub8 a b cin, sign_iff r, zero_iff r, sub8_h_iff a b cin,
    hpv.trans (difference_overflows_iff a b cin).symm, hpv, rfl, sub8_c_iff a b cin, rfl, rfl, rfl, rfl, rfl⟩

/-- Settles O7: as O2 and O3, on 16 bits. -/
theorem wordArithmetic : Obligations.WordArithmetic := by
  intro a b cin f p q d
  refine ⟨⟨BitVec.toNat_ofNat _ 16, decide_eq_true_iff, rfl, decide_eq_true_iff, rfl, rfl, rfl, rfl, rfl⟩, ?_, ?_⟩
  · have hq : q.1.toNat = (a.toNat + b.toNat + cin.toNat) % 65536 := BitVec.toNat_ofNat _ 16
    exact ⟨hq, sign_iff q.1, zero_iff q.1, decide_eq_true_iff, sumSigns_iff.trans (sum_overflows_iff hq).symm, rfl,
      decide_eq_true_iff, rfl, rfl⟩
  · have hc : d.2.c = true ↔ (a.toNat : Int) - b.toNat - cin.toNat < 0 := decide_eq_true_iff
    exact ⟨toNat_ofInt_cast 16 _, sign_iff d.1, zero_iff d.1, decide_eq_true_iff,
      differenceSigns_iff.trans (difference_overflows_iff a b cin).symm, rfl, hc.trans (by omega), rfl, rfl⟩

/-- Settles O6: the one value from which the signed range is left is its end. -/
theorem incDecKeepCarry : Obligations.IncDecKeepCarry := by
  intro v f i d
  have hi : i.1.toNat = (v.toNat + 1) % 256 := BitVec.toNat_add v 1
  have hd : (d.1.toNat : Int) = ((v.toNat : Int) - 1) % 256 := by
    have : d.1.toNat = (255 + v.toNat) % 256 := BitVec.toNat_sub v 1
    omega
  have hipv : i.2.pv = true ↔ v.toNat = 127 := decide_eq_true_iff.trans BitVec.toNat_eq
  have hdpv : d.2.pv = true ↔ v.toNat = 128 := decide_eq_true_iff.trans BitVec.toNat_eq
  have hv := BitVec.toInt_eq_toNat_cond v
  have hii := BitVec.toInt_eq_toNat_cond i.1
  have hdi := BitVec.toInt_eq_toNat_cond d.1
  have hlt := v.isLt
  exact ⟨⟨hi, sign_iff i.1, zero_iff i.1, decide_eq_true_iff, hipv, hipv.trans (by omega), rfl, rfl, rfl, rfl⟩,
    ⟨hd, sign_iff d.1, zero_iff d.1, decide_eq_true_iff, hdpv, hdpv.trans (by omega), rfl, rfl, rfl, rfl⟩⟩

/-! ### The XOR form of the overflow -/

/-- A full adder on the sign bits: the sign rule is that the carry `k` into them is not the carry `t8` out. -/
theorem sumSigns_eq_xor {a7 b7 t7 t8 : Bool} {k : Nat} (hk : k ≤ 1)
    (h : 2 * t8.toNat + t7.toNat = a7.toNat + b7.toNat + k) :
    (a7 == b7 && t7 != a7) = (t8 ^^ (a7 ^^ b7 ^^ t7)) := by
  obtain rfl | rfl : k = 0 ∨ k = 1 := by omega
  all_goals
    revert a7 b7 t7 t8
    decide

/-- The same with borrows. -/
theorem differenceSigns_eq_xor {a7 b7 t7 t8 : Bool} {k : Nat} (hk : k ≤ 1)
    (h : a7.toNat + 2 * t8.toNat = t7.toNat + b7.toNat + k) :
    (a7 != b7 && t7 != a7) = (t8 ^^ (a7 ^^ b7 ^^ t7)) := by
  obtain rfl | rfl : k = 0 ∨ k = 1 := by omega
  all_goals
    revert a7 b7 t7 t8
    decide

/-- Bits 8 and 7 of `a ^ b ^ t`, where t keeps one bit more than its operands. -/
theorem xor_top_bits (a b : Byte) (t : BitVec 9) :
    (a.setWidth 9 ^^^ b.setWidth 9 ^^^ t).getLsbD 8 = t.getLsbD 8 ∧
    (a.setWidth 9 ^^^ b.setWidth 9 ^^^ t).getLsbD 7 = (a.getLsbD 7 ^^ b.getLsbD 7 ^^ t.getLsbD 7) := by
  constructor <;> simp

theorem getLsbD_seven_eq {r : Byte} {t : BitVec 9} (h : r.toNat = t.toNat % 256) : r.getLsbD 7 = t.getLsbD 7 := by
  rw [← BitVec.testBit_toNat, ← BitVec.testBit_toNat, h]
  exact Nat.testBit_mod_two_pow t.toNat 8 7

/-- Settles O4: the carry and the borrow into the sign bits are those of the low seven bits. -/
theorem overflowXorForm : Obligations.OverflowXorForm := by
  intro a b cin w sum diff
  have ha := a.isLt
  have hb := b.isLt
  have hc : cin.toNat ≤ 1 := cin.toNat_le
  obtain ⟨hsum8, hsum7⟩ := xor_top_bits a b sum
  obtain ⟨hdiff8, hdiff7⟩ := xor_top_bits a b diff
  constructor
  · have ht : sum.toNat = (a.toNat + b.toNat + cin.toNat) % 512 := BitVec.toNat_ofNat _ 9
    have hr := toNat_add8 a b cin
    have hadder : 2 * (sum.getLsbD 8).toNat + ((add8 a b cin).1.getLsbD 7).toNat =
        (a.getLsbD 7).toNat + (b.getLsbD 7).toNat + (a.toNat % 128 + b.toNat % 128 + cin.toNat) / 128 := by
      rw [toNat_topBit sum, toNat_topBit a, toNat_topBit b, toNat_topBit (add8 a b cin).1]
      omega
    rw [hsum8, hsum7, ← getLsbD_seven_eq (r := (add8 a b cin).1) (by omega)]
    exact sumSigns_eq_xor (by omega) hadder
  · have ht : (diff.toNat : Int) = ((a.toNat : Int) - b.toNat - cin.toNat) % 512 := toNat_ofInt_cast 9 _
    have hr := toNat_sub8 a b cin
    have hadder : (a.getLsbD 7).toNat + 2 * (diff.getLsbD 8).toNat =
        ((sub8 a b cin).1.getLsbD 7).toNat + (b.getLsbD 7).toNat +
          (b.toNat % 128 + cin.toNat + 127 - a.toNat % 128) / 128 := by
      rw [toNat_topBit diff, toNat_topBit a, toNat_topBit b, toNat_topBit (sub8 a b cin).1]
      omega
    rw [hdiff8, hdiff7, ← getLsbD_seven_eq (r := (sub8 a b cin).1) (by omega)]
    exact differenceSigns_eq_xor (by omega) hadder

end Sys2Proof.Machine
end

section
/-! SUPPORT. The logic operations, the rotates and shifts, DAA, the condition codes and BIT as 40_alu.md states them
(R144 to R147, R153 to R156, R180). -/

namespace Sys2Proof.Machine

/-! ### AND, OR and XOR -/

/-- The flags the three operations share say what O5 asks of any result. -/
theorem logicFlags_spec (r : Byte) (h : Bool) :
    ((logicFlags r h).s = true ↔ r.toInt < 0) ∧ ((logicFlags r h).z = true ↔ r.toNat = 0) ∧
    ((logicFlags r h).pv = true ↔ onesIn r % 2 = 0) :=
  ⟨sign_iff r, zero_iff r, parity_iff r⟩

/-- Settles O5: each operation works bit by bit, and its flags are `logicFlags` of the result. -/
theorem logicOperations : Obligations.LogicOperations := by
  intro op a b f hop r g
  obtain rfl | rfl | rfl := hop
  · obtain ⟨hs, hz, hpv⟩ := logicFlags_spec (a &&& b) true
    exact ⟨fun _ _ => BitVec.getLsbD_and, hs, hz, rfl, rfl, iff_of_true rfl rfl, hpv, rfl, rfl⟩
  · obtain ⟨hs, hz, hpv⟩ := logicFlags_spec (a ||| b) false
    exact ⟨fun _ _ => BitVec.getLsbD_or, hs, hz, rfl, rfl, iff_of_false nofun nofun, hpv, rfl, rfl⟩
  · obtain ⟨hs, hz, hpv⟩ := logicFlags_spec (a ^^^ b) false
    exact ⟨fun _ _ => BitVec.getLsbD_xor, hs, hz, rfl, rfl, iff_of_false nofun nofun, hpv, rfl, rfl⟩

/-! ### Rotates and shifts -/

theorem toNat_bitByte (c : Bool) : (bitByte c).toNat = c.toNat := by
  cases c <;> rfl

/-- A shift to the left with `c` shifted in. -/
theorem toNat_shiftLeft_in (v : Byte) (c : Bool) : ((v <<< 1) ||| bitByte c).toNat = v.toNat * 2 % 256 + c.toNat := by
  have hc : c.toNat < 2 ^ 1 := c.toNat_lt
  have hl : (v <<< 1).toNat = (v.toNat % 128) <<< 1 := by
    rw [BitVec.toNat_shiftLeft, Nat.shiftLeft_eq, Nat.shiftLeft_eq]
    omega
  rw [BitVec.toNat_or, toNat_bitByte, hl, ← Nat.shiftLeft_add_eq_or_of_lt hc, Nat.shiftLeft_eq]
  omega

/-- A shift to the right with `c` shifted in. -/
theorem toNat_shiftRight_in (v : Byte) (c : Bool) :
    ((v >>> 1) ||| (bitByte c <<< 7)).toNat = v.toNat / 2 + c.toNat * 128 := by
  have hv := v.isLt
  have hc : (bitByte c <<< 7).toNat = c.toNat <<< 7 := by
    cases c <;> rfl
  have hr : (v >>> 1).toNat = v.toNat / 2 := BitVec.toNat_ushiftRight v 1
  have hlt : v.toNat / 2 < 2 ^ 7 := by omega
  rw [BitVec.toNat_or, hc, hr, Nat.or_comm, ← Nat.shiftLeft_add_eq_or_of_lt hlt, Nat.shiftLeft_eq, Nat.add_comm]

theorem toNat_bit7 (v : Byte) : (v.getLsbD 7).toNat = v.toNat / 128 := toNat_topBit v

theorem toNat_bit0 (v : Byte) : (v.getLsbD 0).toNat = v.toNat % 2 := by
  rw [← BitVec.testBit_toNat, Nat.toNat_testBit, Nat.pow_zero, Nat.div_one]

theorem bit7_iff (v : Byte) : v.getLsbD 7 = true ↔ 127 < v.toNat := by
  have hv := v.isLt
  rw [← Bool.toNat_eq_one, toNat_bit7]
  omega

theorem bit0_iff (v : Byte) : v.getLsbD 0 = true ↔ v.toNat % 2 = 1 := by
  rw [← Bool.toNat_eq_one, toNat_bit0]

theorem toNat_rlc (v : Byte) : ((v <<< 1) ||| bitByte (v.getLsbD 7)).toNat = v.toNat * 2 % 256 + v.toNat / 128 := by
  rw [toNat_shiftLeft_in, toNat_bit7]

theorem toNat_rrc (v : Byte) :
    ((v >>> 1) ||| (bitByte (v.getLsbD 0) <<< 7)).toNat = v.toNat / 2 + v.toNat % 2 * 128 := by
  rw [toNat_shiftRight_in, toNat_bit0]

/-- SRA keeps the top bit: it shifts that bit in. -/
theorem toNat_sra (v : Byte) : ((v >>> 1) ||| (v &&& 0x80)).toNat = v.toNat / 2 + v.toNat / 128 * 128 := by
  have hkeep : v &&& (0x80 : Byte) = bitByte (v.getLsbD 7) <<< 7 := by
    revert v
    decide
  rw [hkeep, toNat_shiftRight_in, toNat_bit7]

/-- Settles O8: each rotate is a shift with the bit named in R153 shifted in. -/
theorem accumulatorRotates : Obligations.AccumulatorRotates := by
  intro a f n c
  refine ⟨toNat_rlc a, toNat_rrc a, toNat_shiftLeft_in a f.c, toNat_shiftRight_in a f.c, bit7_iff a, bit7_iff a,
    bit0_iff a, bit0_iff a, ?_⟩
  rintro g (rfl | rfl | rfl | rfl)
  all_goals rfl

/-- The flags of any rotate are those of its result, with C the bit moved out. -/
theorem rotate_flags (op : RotOp) (v : Byte) (f : Flags) :
    (rotate op v f).2 = rotFlags (rotate op v f).1 (rotate op v f).2.c := by
  cases op <;> rfl

/-- Settles O9: the flags once for all seven, then the number and the bit moved out of each. -/
theorem shiftsAsNumbers : Obligations.ShiftsAsNumbers := by
  intro op v f n c p
  obtain ⟨hs, hz, hpv⟩ := logicFlags_spec p.1 false
  have hflags : p.2 = rotFlags p.1 p.2.c := rotate_flags op v f
  have hrest : (p.2.s = true ↔ p.1.toInt < 0) ∧ (p.2.z = true ↔ p.1.toNat = 0) ∧ p.2.y = p.1.getLsbD 5 ∧
      p.2.x = p.1.getLsbD 3 ∧ p.2.h = false ∧ (p.2.pv = true ↔ onesIn p.1 % 2 = 0) ∧ p.2.n = false := by
    rw [hflags]
    exact ⟨hs, hz, rfl, rfl, rfl, hpv, rfl⟩
  refine ⟨?_, ?_, hrest⟩
  · cases op with
    | rlc => exact toNat_rlc v
    | rrc => exact toNat_rrc v
    | rl => exact toNat_shiftLeft_in v f.c
    | rr => exact toNat_shiftRight_in v f.c
    | sla => exact (BitVec.toNat_shiftLeft ..).trans (congrArg (· % 256) (Nat.shiftLeft_eq n 1))
    | sra => exact toNat_sra v
    | srl => exact BitVec.toNat_ushiftRight v 1
  · cases op with
    | rlc => exact bit7_iff v
    | rl => exact bit7_iff v
    | sla => exact bit7_iff v
    | rrc => exact bit0_iff v
    | rr => exact bit0_iff v
    | sra => exact bit0_iff v
    | srl => exact bit0_iff v

/-! ### DAA -/

theorem toNat_bcd {n : Nat} (h : n < 100) : (bcd n).toNat = n / 10 * 16 + n % 10 :=
  (BitVec.toNat_ofNat _ 8).trans (Nat.mod_eq_of_lt (by omega))

/-- R155: 6 where the low digit is to be corrected and 96 where the high one is. -/
def daaCorrection (a : Byte) (f : Flags) : Nat :=
  (if f.h = true ∨ 9 < a.toNat % 16 then 6 else 0) + (if f.c = true ∨ 153 < a.toNat then 96 else 0)

theorem daa_carry_iff (a : Byte) (f : Flags) : (daa a f).2.c = true ↔ f.c = true ∨ 153 < a.toNat := by
  simp [daa]

theorem daaCorrection_lt (a : Byte) (f : Flags) : daaCorrection a f < 256 := by
  unfold daaCorrection
  split <;> split <;> omega

theorem daa_eq (a : Byte) (f : Flags) :
    (daa a f).1 =
      if f.n then a - BitVec.ofNat 8 (daaCorrection a f) else a + BitVec.ofNat 8 (daaCorrection a f) := by
  simp only [daa, daaCorrection, Bool.or_eq_true, decide_eq_true_eq, gt_iff_lt]
  by_cases hlow : f.h = true ∨ 9 < a.toNat % 16 <;> by_cases hhigh : f.c = true ∨ 153 < a.toNat <;>
    simp only [hlow, hhigh, if_true, if_false] <;> rfl

theorem daa_of_sum (a : Byte) {f : Flags} (hn : f.n = false) :
    (daa a f).1.toNat = (a.toNat + daaCorrection a f) % 256 := by
  rw [daa_eq, hn, if_neg Bool.false_ne_true, BitVec.toNat_add, BitVec.toNat_ofNat,
    Nat.mod_eq_of_lt (daaCorrection_lt a f)]

theorem daa_of_difference (a : Byte) {f : Flags} (hn : f.n = true) :
    (daa a f).1.toNat = (256 - daaCorrection a f + a.toNat) % 256 := by
  rw [daa_eq, hn, if_pos rfl, BitVec.toNat_sub, BitVec.toNat_ofNat, Nat.mod_eq_of_lt (daaCorrection_lt a f)]

section
variable {m n c : Nat} (hm : m < 100) (hn : n < 100) (hc : c ≤ 1) {a : Byte} {f : Flags}
include hm hn hc

/-- The low digits need a correction when their sum is not a digit, the high one when the whole sum reaches 100. -/
theorem daa_after_sum (ha : a.toNat = (m / 10 * 16 + m % 10 + (n / 10 * 16 + n % 10) + c) % 256)
    (hN : f.n = false) (hH : f.h = true ↔ 15 < m % 10 + n % 10 + c)
    (hC : f.c = true ↔ 255 < m / 10 * 16 + m % 10 + (n / 10 * 16 + n % 10) + c) :
    (daa a f).1 = bcd ((m + n + c) % 100) ∧ ((daa a f).2.c = true ↔ 100 ≤ m + n + c) := by
  have hlow : f.h = true ∨ 9 < a.toNat % 16 ↔ 9 < m % 10 + n % 10 + c := by
    rw [hH]
    omega
  have hnine : f.c = true ∨ 153 < a.toNat ↔ 153 < m / 10 * 16 + m % 10 + (n / 10 * 16 + n % 10) + c := by
    rw [hC]
    omega
  have hhigh : f.c = true ∨ 153 < a.toNat ↔ 100 ≤ m + n + c := hnine.trans (by omega)
  refine ⟨BitVec.eq_of_toNat_eq ?_, (daa_carry_iff a f).trans hhigh⟩
  rw [daa_of_sum a hN, toNat_bcd (by omega), daaCorrection]
  simp only [hlow, hhigh]
  split <;> split <;> omega

/-- The same with borrows. -/
theorem daa_after_difference
    (ha : (a.toNat : Int) = ((m / 10 * 16 + m % 10 : Nat) - (n / 10 * 16 + n % 10 : Nat) - c : Int) % 256)
    (hN : f.n = true) (hH : f.h = true ↔ m % 10 < n % 10 + c)
    (hC : f.c = true ↔ ((m / 10 * 16 + m % 10 : Nat) - (n / 10 * 16 + n % 10 : Nat) - c : Int) < 0) :
    (daa a f).1 = bcd ((m + 100 - n - c) % 100) ∧ ((daa a f).2.c = true ↔ m < n + c) := by
  have hlow : f.h = true ∨ 9 < a.toNat % 16 ↔ m % 10 < n % 10 + c := by
    rw [hH]
    omega
  have hhigh : f.c = true ∨ 153 < a.toNat ↔ m < n + c := by
    rw [hC]
    omega
  refine ⟨BitVec.eq_of_toNat_eq ?_, (daa_carry_iff a f).trans hhigh⟩
  rw [daa_of_difference a hN, toNat_bcd (by omega), daaCorrection]
  simp only [hlow, hhigh]
  split <;> split <;> omega

end

theorem bcd_mod_sixteen {n : Nat} (h : n < 100) : (bcd n).toNat % 16 = n % 10 := by
  rw [toNat_bcd h]
  omega

/-- Settles O10: the operands are two digits each, and add8 and sub8 leave the flags DAA asks for. -/
theorem daaIsDecimal : Obligations.DaaIsDecimal := by
  intro m n cin hm hn sum diff
  have hc : cin.toNat ≤ 1 := cin.toNat_le
  have hsum := toNat_add8 (bcd m) (bcd n) cin
  have hsumH := add8_h_iff (bcd m) (bcd n) cin
  have hsumC := add8_c_iff (bcd m) (bcd n) cin
  have hdiff := toNat_sub8 (bcd m) (bcd n) cin
  have hdiffH := sub8_h_iff (bcd m) (bcd n) cin
  have hdiffC := sub8_c_iff (bcd m) (bcd n) cin
  rw [bcd_mod_sixteen hm, bcd_mod_sixteen hn] at hsumH hdiffH
  rw [toNat_bcd hm, toNat_bcd hn] at hsum hsumC hdiff hdiffC
  obtain ⟨hs, hsc⟩ := daa_after_sum hm hn hc hsum rfl hsumH hsumC
  obtain ⟨hd, hdc⟩ := daa_after_difference hm hn hc hdiff rfl hdiffH hdiffC
  exact ⟨hs, hsc, hd, hdc⟩

/-! ### The condition codes and BIT -/

/-- Settles O11: each code is its flag, or the flag's complement. -/
theorem conditionCodes : Obligations.ConditionCodes := fun f =>
  have hnot (b : Bool) : (!b) = true ↔ b = false := Bool.not_eq_true' b ▸ Iff.rfl
  ⟨hnot f.z, Iff.rfl, hnot f.c, Iff.rfl, hnot f.pv, Iff.rfl, hnot f.s, Iff.rfl⟩

theorem Idx8.toNat_eq_seven (b : Idx8) : b.toNat = 7 ↔ b = .i7 := by
  cases b <;> decide

theorem bitTest_toNat (b : Idx8) (v : Byte) (f : Flags) :
    bitTest b.toNat v f = { f with
      s := decide (b = .i7) && v.getLsbD 7, z := !v.getLsbD b.toNat, pv := !v.getLsbD b.toNat
      h := true, n := false } := by
  simp only [bitTest, Idx8.toNat_eq_seven]

/-- Settles O53: the flags are those of `bitTest` but for Y and X, which each form of the operand takes its own way. -/
theorem bitTestInstructions : Obligations.BitTestInstructions := by
  refine ⟨fun b n s => ?_, fun x b d s h => ?_⟩
  · rw [exec_mkBitR, opBitR, bitTest_toNat]
    rfl
  · rw [exec_mkBitM, opBitM, memRead_ok h, bitTest_toNat]
    cases x with
    | none => exact ⟨_, rfl, fun hx => absurd rfl hx, rfl⟩
    | ix => exact ⟨_, rfl, fun _ => ⟨rfl, rfl⟩, rfl⟩
    | iy => exact ⟨_, rfl, fun _ => ⟨rfl, rfl⟩, rfl⟩

end Sys2Proof.Machine
end

section
/-! SUPPORT. What a register write and a store give of `WritesReg8`, `WritesRp` and `StoresByte`, said once per operand;
the loads, counts and arithmetic of pairs, INC and DEC, and the accumulator instructions are their uses
(41_base_x0.md R206, R207, R216 to R219, R222 to R229). -/

namespace Sys2Proof.Machine

/-! ### One write, and the cost -/

/-- A register operand, F and tstates written, and nothing else, is `WritesReg8`. -/
theorem writesReg8_setReg8 (x : Ctx) (n : Reg8) (v : Byte) (g : Flags) (cost : Nat) (s : State) :
    WritesReg8 x n v g cost s (State.addT cost (setReg8 x n v (s.setF g))) := by
  obtain ⟨hsame, hother⟩ := registerOperands.1 x n v (s.setF g)
  refine ⟨hsame, hother, ?_⟩
  cases n with
  | h => cases x <;> rfl
  | l => cases x <;> rfl
  | _ => rfl

/-- The same for A and F written together. -/
theorem writesReg8_setAF (p : Byte × Flags) (cost : Nat) (s : State) :
    WritesReg8 .none .a p.1 p.2 cost s (State.addT cost (s.setAF p)) :=
  writesReg8_setReg8 .none .a p.1 p.2 cost s

/-- The same for a pair operand. -/
theorem writesRp_setReg16 (x : Ctx) (p : Rp) (v : Word) (g : Flags) (cost : Nat) (s : State) :
    WritesRp x p v g cost s (State.addT cost (setReg16 x p v (s.setF g))) := by
  obtain ⟨hsame, hother⟩ := registerOperands.2.1 x p v (s.setF g)
  refine ⟨hsame, hother, ?_⟩
  cases p with
  | hl => cases x <;> rfl
  | _ => rfl

/-- The same for one byte stored: the write call is logged, and every other byte is as before. -/
theorem storesByte_store {s : State} (hwf : s.mem.wf = true) (a : Word) (v : Byte) (g : Flags) (cost : Nat) :
    StoresByte a v g cost s (State.addT cost (((s.setF g).store a v).logged (.memWrite a v))) :=
  ⟨Memory.read_write_same hwf a v, fun _ hb => Memory.read_write_other hwf hb v, rfl⟩

/-! ### Pairs -/

/-- Settles O38: each form writes its one pair, and F with its own value. -/
theorem pairLoadsAndCounts : Obligations.PairLoadsAndCounts := by
  refine ⟨fun x p nn s => ?_, fun x p s => ?_, fun x p s => ?_, fun x s => ?_⟩
  · exact ⟨_, exec_mkLdRpNn x p nn s, writesRp_setReg16 x p nn s.f _ s⟩
  · exact ⟨_, exec_mkIncRp x p s, writesRp_setReg16 x p (reg16 x p s + 1) s.f _ s⟩
  · exact ⟨_, exec_mkDecRp x p s, writesRp_setReg16 x p (reg16 x p s - 1) s.f _ s⟩
  · exact ⟨_, exec_mkLdSpHl x s, writesRp_setReg16 .none .sp (regHL x s) s.f _ s⟩

/-- Settles O44: each form writes HL, IX or IY and the flags of its sum or difference. -/
theorem pairArithmetic : Obligations.PairArithmetic := by
  refine ⟨fun x p s => ?_, fun p s => ?_, fun p s => ?_⟩
  · exact ⟨_, exec_mkAddHl x p s, writesRp_setReg16 x .hl _ _ _ s⟩
  · exact ⟨_, exec_mkAdcHl p s, writesRp_setReg16 .none .hl _ _ _ s⟩
  · exact ⟨_, exec_mkSbcHl p s, writesRp_setReg16 .none .hl _ _ _ s⟩

/-! ### INC and DEC -/

theorem opStepR_writes (g : Byte → Flags → Byte × Flags) (x : Ctx) (n : Reg8) (s : State) :
    ∃ t, opStepR g x n s = .next t ∧
      WritesReg8 x n (g (reg8 x n s) s.f).1 (g (reg8 x n s) s.f).2 (4 + halfT x n.isHL) s t :=
  ⟨_, rfl, writesReg8_setReg8 x n _ _ _ s⟩

theorem opStepM_stores (g : Byte → Flags → Byte × Flags) (x : Ctx) (d : Byte) {s : State}
    (hok : s.adapterErrs = []) (hwf : s.mem.wf = true) :
    ∃ t, opStepM g x d s = .next t ∧
      StoresByte (ea x d s) (g (s.mem.read (ea x d s)) s.f).1 (g (s.mem.read (ea x d s)) s.f).2 (memT x 11 23)
        (s.afterRead (ea x d s)) t := by
  rw [opStepM, memRead_ok hok, memWrite_ok (by exact hok)]
  exact ⟨_, rfl, storesByte_store (s := s.afterRead (ea x d s)) hwf _ _ _ _⟩

/-- Settles O42: `opStepR` and `opStepM` at inc8 and at dec8. -/
theorem incDecInstructions : Obligations.IncDecInstructions := by
  refine ⟨fun x n s => ⟨?_, ?_⟩, fun x d s hok hwf => ⟨?_, ?_⟩⟩
  · rw [exec_mkIncR]
    exact opStepR_writes inc8 x n s
  · rw [exec_mkDecR]
    exact opStepR_writes dec8 x n s
  · rw [exec_mkIncM]
    exact opStepM_stores inc8 x d hok hwf
  · rw [exec_mkDecM]
    exact opStepM_stores dec8 x d hok hwf

/-! ### The accumulator -/

theorem opAcc_writes (g : Byte → Flags → Byte × Flags) (s : State) :
    ∃ t, opAcc g s = .next t ∧ WritesReg8 .none .a (g s.a s.f).1 (g s.a s.f).2 4 s t :=
  ⟨_, rfl, writesReg8_setAF (g s.a s.f) 4 s⟩

/-- CPL's exclusive or with FFh is the complement, 255 - A (R227). -/
theorem toNat_xor_0xFF (a : Byte) : (a ^^^ 0xFF).toNat = 255 - a.toNat := by
  have hcompl : a ^^^ 0xFF = ~~~a := BitVec.xor_allOnes
  rw [hcompl, BitVec.toNat_not]

/-- Settles O45: the rotates and DAA are `opAcc` at their function; SCF and CCF write F, X and Y with what was drawn. -/
theorem accumulatorInstructions : Obligations.AccumulatorInstructions := fun s =>
  ⟨opAcc_writes rlca s, opAcc_writes rrca s, opAcc_writes rla s, opAcc_writes rra s, opAcc_writes daa s,
    ⟨_, exec_mkCpl s, toNat_xor_0xFF s.a, writesReg8_setAF (s.a ^^^ 0xFF, _) 4 s⟩,
    ⟨_, exec_mkScf s, rfl⟩, ⟨_, exec_mkCcf s, rfl⟩⟩

end Sys2Proof.Machine
end

section
/-! SUPPORT. The jumps, the exchanges and the control instructions (41_base_x0.md R200 to R205, 42_base_x1_x2.md R253,
43_base_x3.md R283 to R293, 45_ed_prefix.md R363). -/

namespace Sys2Proof.Machine

/-! ### Control -/

/-- Settles O59: each form is one record update. -/
theorem controlInstructions : Obligations.ControlInstructions := fun s =>
  ⟨exec_mkNop s, exec_mkHalt s, exec_mkDi s, exec_mkEi s, fun m => exec_mkIm m s⟩

/-! ### Jumps -/

theorem opJpCc_eq (k : Cond) (nn : Word) (s : State) :
    opJpCc k nn s = .next { s with pc := if cond k s.f then nn else s.pc, tstates := s.tstates + 10 } := by
  unfold opJpCc
  split <;> rfl

theorem opJrCc_eq (k : JrCond) (e : Byte) (s : State) :
    opJrCc k e s = .next { s with
      pc := if cond k.toCond s.f then s.pc + sext16 e else s.pc
      tstates := s.tstates + if cond k.toCond s.f then 12 else 7 } := by
  unfold opJrCc
  split <;> rfl

/-- B is 0 after the decrement exactly where it was 1 before (R202). -/
theorem opDjnz_eq (e : Byte) (s : State) :
    opDjnz e s = .next { s with
      b := s.b - 1
      pc := if s.b = 1 then s.pc else s.pc + sext16 e
      tstates := s.tstates + if s.b = 1 then 8 else 13 } := by
  have hzero : s.b - 1 = 0 ↔ s.b = 1 := sub_eq_zero
  rw [opDjnz, if_congr hzero rfl rfl]
  split <;> rfl

/-- Settles O46: the unconditional forms write PC; each other form branches once, on its test. -/
theorem jumpInstructions : Obligations.JumpInstructions := fun s =>
  ⟨fun nn => exec_mkJp nn s,
    fun k nn => (exec_mkJpCc k nn s).trans (opJpCc_eq k nn s),
    fun x => exec_mkJpHl x s,
    fun e => exec_mkJr e s,
    fun k e => (exec_mkJrCc k e s).trans (opJrCc_eq k e s),
    fun e => (exec_mkDjnz e s).trans (opDjnz_eq e s)⟩

/-! ### Exchanges -/

theorem setRegHL_mem (x : Ctx) (v : Word) (s : State) : (setRegHL x v s).mem = s.mem := by
  cases x <;> rfl

/-- A word stored with its high byte first reads back. -/
theorem wordAt_write_high_low {m : Memory} (hwf : m.wf = true) (a w : Word) :
    wordAt ((m.write (a + 1) (hiByte w)).write a (loByte w)) a = w := by
  have hne : a + 1 ≠ a := by bv_omega
  have hwf' := Memory.wf_write hwf (a + 1) (hiByte w)
  rw [wordAt, Memory.read_write_other hwf' hne, Memory.read_write_same hwf, Memory.read_write_same hwf',
    mkWord_hiByte_loByte]

/-- The state EX (SP),HL leaves but for the register and the cost: the two bytes at SP read, then those of `w` stored
in their place, the high byte first (R290). -/
def State.topExchanged (w : Word) (s : State) : State :=
  { s with
    mem := (s.mem.write (s.sp + 1) (hiByte w)).write s.sp (loByte w)
    trace := .memWrite s.sp (loByte w) :: .memWrite (s.sp + 1) (hiByte w) ::
      .memRead (s.sp + 1) (s.mem.read (s.sp + 1)) :: .memRead s.sp (s.mem.read s.sp) :: s.trace }

theorem opExSp_ok (x : Ctx) {s : State} (hok : s.adapterErrs = []) :
    opExSp x s = .next (State.addT (19 + ctxT x)
      (setRegHL x (wordAt s.mem s.sp) (s.topExchanged (regHL x s)))) := by
  rw [opExSp, memRead_ok hok, memRead_ok (by simpa using hok), memWrite_ok (by simpa using hok),
    memWrite_ok (by simpa using hok)]
  simp only [State.logged, State.store, State.topExchanged, wordAt]
  cases x <;> rfl

/-- Settles O51: the three swaps of registers are one record update each; EX (SP),HL leaves the word it read in the
register and the register's word at SP. -/
theorem exchangeInstructions : Obligations.ExchangeInstructions := by
  refine ⟨fun s => ⟨exec_mkExAf s, exec_mkExx s, exec_mkExDeHl s⟩, fun x s hok hwf => ?_⟩
  refine ⟨_, (exec_mkExSp x s).trans (opExSp_ok x hok), ?_⟩
  have hreg := regHL_setRegHL_same x (wordAt s.mem s.sp) (s.topExchanged (regHL x s))
  have hword := wordAt_write_high_low hwf s.sp (regHL x s)
  refine ⟨hreg, ?_, fun b hlow hhigh => ?_, fun y hy => regHL_setRegHL_otherCtx hy _ _, ?_⟩
  · rw [State.addT_mem, setRegHL_mem]
    exact hword
  · rw [State.addT_mem, setRegHL_mem]
    exact (Memory.read_write_other (Memory.wf_write hwf _ _) hlow _).trans
      (Memory.read_write_other hwf hhigh _)
  · cases x <;> rfl

end Sys2Proof.Machine
end

section
/-! SUPPORT. The 8-bit loads, the loads and stores of words, and the eight ALU operations (41_base_x0.md R208 to R215,
R220, R221, 42_base_x1_x2.md R250 to R262, 45_ed_prefix.md R354, R355): one lemma per shared operation says what it
writes. -/

namespace Sys2Proof.Machine

/-! ### Registers -/

/-- Settles O37: both forms write the one destination, and F with its own value. -/
theorem registerLoads : Obligations.RegisterLoads := by
  refine ⟨fun x dst src s => ?_, fun x dst n s => ?_⟩
  · exact ⟨_, exec_mkLdRR x dst src s, writesReg8_setReg8 x dst (reg8 x src s) s.f _ s⟩
  · exact ⟨_, exec_mkLdRN x dst n s, writesReg8_setReg8 x dst n s.f _ s⟩

/-! ### Loads from memory -/

section
variable {s : State} (hok : s.adapterErrs = [])
include hok

theorem opLdRM_writes (x : Ctx) (dst : Reg8) (d : Byte) :
    ∃ t, opLdRM x dst d s = .next t ∧
      WritesReg8 .none dst (s.mem.read (ea x d s)) s.f (memT x 7 19) (s.afterRead (ea x d s)) t := by
  rw [opLdRM, memRead_ok hok]
  exact ⟨_, rfl, writesReg8_setReg8 .none dst _ s.f _ (s.afterRead (ea x d s))⟩

theorem opLoadA_writes (a : Word) (cost : Nat) :
    ∃ t, opLoadA a cost s = .next t ∧ WritesReg8 .none .a (s.mem.read a) s.f cost (s.afterRead a) t := by
  rw [opLoadA, memRead_ok hok]
  exact ⟨_, rfl, writesReg8_setReg8 .none .a _ s.f cost (s.afterRead a)⟩

theorem opLoadWord_writes (x : Ctx) (p : Rp) (a : Word) (cost : Nat) :
    ∃ t, opLoadWord x p a cost s = .next t ∧ WritesRp x p (wordAt s.mem a) s.f cost (s.afterRead2 a) t := by
  rw [opLoadWord, memRead2_ok hok]
  exact ⟨_, rfl, writesRp_setReg16 x p _ s.f cost (s.afterRead2 a)⟩

end

/-- Settles O39: a byte is loaded by `opLdRM` or into A, a word by `opLoadWord`. -/
theorem memoryLoads : Obligations.MemoryLoads := by
  refine fun s hok => ⟨fun x dst d => ?_, ?_, ?_, fun nn => ?_, fun x nn => ?_, fun p nn => ?_⟩
  · rw [exec_mkLdRM]
    exact opLdRM_writes hok x dst d
  · exact opLoadA_writes hok s.bc 7
  · exact opLoadA_writes hok s.de 7
  · exact opLoadA_writes hok nn 13
  · rw [exec_mkLdHlNn]
    exact opLoadWord_writes hok x .hl nn _
  · rw [exec_mkLdRpNnMem]
    exact opLoadWord_writes hok .none p nn 20

/-! ### Stores -/

/-- The state after the two bytes of a word have been stored and the writes logged, the low byte first
(20_memory.md R64). -/
def State.wordStored (a w : Word) (s : State) : State :=
  { s with
    mem := (s.mem.write a (loByte w)).write (a + 1) (hiByte w)
    trace := .memWrite (a + 1) (hiByte w) :: .memWrite a (loByte w) :: s.trace }

theorem memWrite2_wordStored {s : State} (hok : s.adapterErrs = []) (a w : Word) (k : State → Out) :
    memWrite2 a w s k = k (s.wordStored a w) := by
  rw [memWrite2_ok hok]
  simp only [State.store, State.logged, State.wordStored]

/-- A word stored, and the cost, is `StoresWord`; the two addresses differ, also where the second wraps to 0. -/
theorem storesWord_wordStored {s : State} (hwf : s.mem.wf = true) (a w : Word) (cost : Nat) :
    StoresWord a w cost s (State.addT cost (s.wordStored a w)) := by
  have hne : a ≠ a + 1 := by bv_omega
  have hwf' := Memory.wf_write hwf a (loByte w)
  have hlow := (Memory.read_write_other hwf' hne (hiByte w)).trans (Memory.read_write_same hwf a (loByte w))
  have hhigh := Memory.read_write_same hwf' (a + 1) (hiByte w)
  have hother (b : Word) (hb : b ≠ a) (hb' : b ≠ a + 1) :=
    (Memory.read_write_other hwf' hb' (hiByte w)).trans (Memory.read_write_other hwf hb (loByte w))
  exact ⟨hlow, hhigh, hother, rfl⟩

section
variable {s : State} (hok : s.adapterErrs = []) (hwf : s.mem.wf = true)
include hok hwf

/-- One write call and the cost: what every 8-bit store does. -/
theorem memWrite_addT_stores (a : Word) (v : Byte) (cost : Nat) :
    ∃ t, memWrite a v s (fun u => .next (u.addT cost)) = .next t ∧ StoresByte a v s.f cost s t := by
  rw [memWrite_ok hok]
  exact ⟨_, rfl, storesByte_store hwf a v s.f cost⟩

theorem opStoreWord_stores (a w : Word) (cost : Nat) :
    ∃ t, opStoreWord a w cost s = .next t ∧ StoresWord a w cost s t := by
  rw [opStoreWord, memWrite2_wordStored hok]
  exact ⟨_, rfl, storesWord_wordStored hwf a w cost⟩

end

/-- Settles O40: each 8-bit form is one write call, each 16-bit form `opStoreWord`. -/
theorem memoryStores : Obligations.MemoryStores := by
  refine fun s hok hwf => ⟨fun x src d => ?_, fun x d n => ?_, ?_, ?_, fun nn => ?_, fun x nn => ?_, fun p nn => ?_⟩
  · rw [exec_mkLdMR]
    exact memWrite_addT_stores hok hwf (ea x d s) (reg8 .none src s) _
  · rw [exec_mkLdMN]
    exact memWrite_addT_stores hok hwf (ea x d s) n _
  · exact memWrite_addT_stores hok hwf s.bc s.a 7
  · exact memWrite_addT_stores hok hwf s.de s.a 7
  · exact memWrite_addT_stores hok hwf nn s.a 13
  · rw [exec_mkLdNnHl]
    exact opStoreWord_stores hok hwf nn (regHL x s) _
  · rw [exec_mkLdNnRp]
    exact opStoreWord_stores hok hwf nn (reg16 .none p s) 20

/-! ### The ALU operations -/

/-- What `applyAlu` and the cost write, whatever the operand is. -/
theorem writesReg8_applyAlu (op : AluOp) (v : Byte) (cost : Nat) (s : State) :
    WritesReg8 .none .a (alu op s.a v s.f).1 (alu op s.a v s.f).2 cost s (State.addT cost (applyAlu op v s)) :=
  writesReg8_setAF (alu op s.a v s.f) cost s

theorem opAluM_writes (x : Ctx) (op : AluOp) (d : Byte) {s : State} (hok : s.adapterErrs = []) :
    ∃ t, opAluM x op d s = .next t ∧
      WritesReg8 .none .a (alu op s.a (s.mem.read (ea x d s)) s.f).1 (alu op s.a (s.mem.read (ea x d s)) s.f).2
        (memT x 7 19) (s.afterRead (ea x d s)) t := by
  rw [opAluM, memRead_ok hok]
  exact ⟨_, rfl, writesReg8_applyAlu op _ _ (s.afterRead (ea x d s))⟩

/-- Settles O41: the operand is a register, an immediate or a byte read; `applyAlu` writes A and F. -/
theorem aluInstructions : Obligations.AluInstructions := by
  refine ⟨fun x op src s => ?_, fun op n s => ?_, fun x op d s hok => ?_⟩
  · exact ⟨_, exec_mkAluR x op src s, writesReg8_applyAlu op (reg8 x src s) _ s⟩
  · exact ⟨_, exec_mkAluN op n s, writesReg8_applyAlu op n 7 s⟩
  · rw [exec_mkAluM]
    exact opAluM_writes x op d hok

end Sys2Proof.Machine
end

section
/-! SUPPORT. CALL, RST, the returns, PUSH and POP (43_base_x3.md R280 to R282, R294 to R297, 45_ed_prefix.md R361,
R362): `State.pushed` gives `PushesWord` and `State.popped` is `State.afterPop`; each instruction is a use of one of
the two. -/

namespace Sys2Proof.Machine

/-! ### One push -/

/-- A push and a jump, at a cost, is `PushesWord`, wherever the stack lies. -/
theorem pushesWord_pushed {s : State} (hwf : s.mem.wf = true) (w target : Word) (cost : Nat) :
    PushesWord w target cost s (State.addT cost ((s.pushed w).setPC target)) := by
  have hsp : s.sp - 2 = s.sp - 1 - 1 := by bv_omega
  rw [PushesWord, hsp]
  have hwf' := Memory.wf_write hwf (s.sp - 1) (hiByte w)
  have hother (b : Word) (hhigh : b ≠ s.sp - 1) (hlow : b ≠ s.sp - 1 - 1) :=
    (Memory.read_write_other hwf' hlow (loByte w)).trans (Memory.read_write_other hwf hhigh (hiByte w))
  exact ⟨State.pushed_read_high hwf w, State.pushed_read_low hwf w, hother, rfl⟩

section
variable {s : State} (hok : s.adapterErrs = []) (hwf : s.mem.wf = true)
include hok hwf

theorem callTo_pushes (target : Word) (cost : Nat) :
    ∃ t, callTo target cost s = .next t ∧ PushesWord s.pc target cost s t := by
  rw [callTo, push16_ok hok]
  exact ⟨_, rfl, pushesWord_pushed hwf s.pc target cost⟩

theorem opPush_pushes (x : Ctx) (p : Rp2) :
    ∃ t, opPush x p s = .next t ∧ PushesWord (reg16af x p s) s.pc (11 + halfT x p.isHL) s t := by
  rw [opPush, push16_ok hok]
  exact ⟨_, rfl, pushesWord_pushed hwf (reg16af x p s) s.pc _⟩

end

/-- Settles O47: CALL, a CALL cc taken and RST are `callTo`; a CALL cc not taken only counts its cost. -/
theorem callInstructions : Obligations.CallInstructions := by
  refine fun s hok hwf =>
    ⟨fun nn => callTo_pushes hok hwf nn 17, fun k nn => ⟨fun hk => ?_, fun hk => ?_⟩, fun y => ?_⟩
  · rw [exec_mkCallCc, opCallCc, if_pos hk]
    exact callTo_pushes hok hwf nn 17
  · rw [exec_mkCallCc, opCallCc, hk]
    rfl
  · rw [exec_mkRst]
    exact callTo_pushes hok hwf _ 11

/-! ### One pop -/

theorem State.popped_eq_afterPop (s : State) : s.popped = s.afterPop := by
  have hsp : s.sp + 1 + 1 = s.sp + 2 := BitVec.add_assoc s.sp 1 1
  rw [State.popped, State.afterPop, hsp]

section
variable {s : State} (hok : s.adapterErrs = [])
include hok

theorem pop16_afterPop (k : Word → State → Out) : pop16 s k = k (wordAt s.mem s.sp) s.afterPop := by
  rw [pop16_ok hok, State.popped_eq_afterPop, wordAt]

theorem returnTo_eq (cost : Nat) : returnTo cost s =
    .next { s.afterPop with pc := wordAt s.mem s.sp, tstates := s.tstates + cost } := by
  rw [returnTo, pop16_afterPop hok]
  rfl

theorem opRetCc_eq (k : Cond) : opRetCc k s =
    if cond k s.f then .next { s.afterPop with pc := wordAt s.mem s.sp, tstates := s.tstates + 11 }
    else .next { s with tstates := s.tstates + 5 } := by
  rw [opRetCc, returnTo_eq hok]
  rfl

theorem returnFromInterrupt_afterPop (k : State → Out) : returnFromInterrupt s k =
    k { s.afterPop with pc := wordAt s.mem s.sp, iff1 := s.iff2 } := by
  rw [returnFromInterrupt_ok hok, State.popped_eq_afterPop, wordAt]

theorem opRetn_eq : opRetn s =
    .next { s.afterPop with pc := wordAt s.mem s.sp, iff1 := s.iff2, tstates := s.tstates + 14 } := by
  rw [opRetn, returnFromInterrupt_afterPop hok]
  rfl

/-- With nothing in service RETI makes no call and does what RETN does (R499). -/
theorem opReti_nil (hnil : s.inService = []) : opReti s =
    .next { s.afterPop with pc := wordAt s.mem s.sp, iff1 := s.iff2, tstates := s.tstates + 14 } := by
  rw [opReti, returnFromInterrupt_afterPop hok, finishInService_nil (by exact hnil)]
  rfl

/-- Otherwise the head of the list is taken out and finished, the call logged after the reads of the pop (R362). -/
theorem opReti_cons {handle : Nat} {rest : List Nat} (hcons : s.inService = handle :: rest) : opReti s =
    .next { s.afterPop with
      pc := wordAt s.mem s.sp, iff1 := s.iff2, tstates := s.tstates + 14
      inService := rest, trace := .interruptFinish handle :: s.afterPop.trace } := by
  rw [opReti, returnFromInterrupt_afterPop hok, finishInService_cons (by exact hcons),
    callInterruptFinish_ok (by exact hok)]
  rfl

end

/-- Settles O48: RET and a RET cc taken are `returnTo`; RETN and RETI share `returnFromInterrupt`. -/
theorem returnInstructions : Obligations.ReturnInstructions := fun s hok =>
  ⟨returnTo_eq hok 10, fun k => (exec_mkRetCc k s).trans (opRetCc_eq hok k), opRetn_eq hok,
    fun hnil => opReti_nil hok hnil, fun _ _ hcons => opReti_cons hok hcons⟩

/-! ### The pairs of PUSH and POP -/

/-- A pair reads back what was written; AF, because a flag byte unpacked and packed again is itself (R31). -/
theorem reg16af_setReg16af_same (x : Ctx) (p : Rp2) (v : Word) (s : State) : reg16af x p (setReg16af x p v s) = v := by
  cases p with
  | bc => exact mkWord_hiByte_loByte v
  | de => exact mkWord_hiByte_loByte v
  | hl => exact regHL_setRegHL_same x v s
  | af =>
    rw [reg16af, setReg16af, State.af, State.setAFWord, Flags.toByte_ofByte]
    exact mkWord_hiByte_loByte v

theorem reg16af_setReg16af_otherName (x y : Ctx) {p q : Rp2} (hq : q ≠ p) (v : Word) (s : State) :
    reg16af y q (setReg16af x p v s) = reg16af y q s := by
  cases p with
  | hl => cases q <;> cases x <;> simp [reg16af, setReg16af, setRegHL, State.bc, State.de, State.af] at hq ⊢
  | _ =>
    cases q <;> cases y <;>
      simp [reg16af, setReg16af, regHL, State.bc, State.de, State.hl, State.af, State.setAFWord] at hq ⊢

theorem reg16af_setReg16af_otherCtx {x y : Ctx} (hxy : y ≠ x) {p : Rp2} (hp : p.isHL = true) (v : Word) (s : State) :
    reg16af y p (setReg16af x p v s) = reg16af y p s := by
  cases p with
  | hl => exact regHL_setRegHL_otherCtx hxy v s
  | _ => cases hp

/-- Another pair has another name, or the same name under another context, as in `registerOperands`. -/
theorem reg16af_setReg16af_other {x y : Ctx} {p q : Rp2} (h : q ≠ p ∨ (q.isHL = true ∧ y ≠ x)) (v : Word)
    (s : State) : reg16af y q (setReg16af x p v s) = reg16af y q s := by
  by_cases hq : q = p
  · subst hq
    obtain hne | ⟨hHL, hxy⟩ := h
    · exact absurd rfl hne
    · exact reg16af_setReg16af_otherCtx hxy hHL v s
  · exact reg16af_setReg16af_otherName x y hq v s

/-- The write of a pair touches no field that is not a half of one. -/
theorem setReg16af_frame (x : Ctx) (p : Rp2) (v : Word) (s : State) :
    let t := setReg16af x p v s
    t = { s with
      a := t.a, f := t.f, b := t.b, c := t.c, d := t.d, e := t.e, h := t.h, l := t.l, ix := t.ix, iy := t.iy } := by
  cases p with
  | hl => cases x <;> rfl
  | _ => rfl

theorem opPop_ok (x : Ctx) (p : Rp2) {s : State} (hok : s.adapterErrs = []) :
    opPop x p s = .next (State.addT (10 + halfT x p.isHL) (setReg16af x p (wordAt s.mem s.sp) s.afterPop)) :=
  pop16_afterPop hok _

/-- Settles O49: PUSH is one push of the pair; POP writes the word at SP to the pair after the pop. -/
theorem pushAndPop : Obligations.PushAndPop := by
  refine ⟨fun x p s hok hwf => ?_, fun x p s hok => ?_⟩
  · rw [exec_mkPush]
    exact opPush_pushes hok hwf x p
  · refine ⟨_, (exec_mkPop x p s).trans (opPop_ok x p hok), ?_, fun y q h => ?_, ?_⟩
    · exact reg16af_setReg16af_same x p (wordAt s.mem s.sp) s.afterPop
    · exact reg16af_setReg16af_other h (wordAt s.mem s.sp) s.afterPop
    · rw [setReg16af_frame x p (wordAt s.mem s.sp) s.afterPop]
      rfl

end Sys2Proof.Machine
end

section
/-! SUPPORT. IN and OUT (43_base_x3.md R288, R289, 45_ed_prefix.md R350, R351). -/

namespace Sys2Proof.Machine

/-- The state after an I/O read that returned `v`: one answer of the list used up, or one free byte drawn where there
is none, and the call logged (20_memory.md R61). -/
def State.afterIoRead (port : Word) (v : Byte) (s : State) : State :=
  { s with
    ioIn := s.ioIn.tail, draws := if s.ioIn = [] then s.draws + 1 else s.draws
    trace := .ioRead port v :: s.trace }

theorem ioAnswer_fst {s : State} {w : Byte} {ws : List Byte} (h : s.ioIn = w :: ws) (port : Word) :
    (ioAnswer port s).1 = w := by
  rw [ioAnswer_listed h]

theorem ioAnswer_logged (port : Word) (v : Byte) (s : State) :
    (ioAnswer port s).2.logged (.ioRead port v) = s.afterIoRead port v := by
  cases h : s.ioIn with
  | nil =>
    rw [ioAnswer_free h, State.afterIoRead, h]
    rfl
  | cons w ws =>
    rw [ioAnswer_listed h, State.afterIoRead, h]
    rfl

theorem ioRead_afterIoRead {s : State} (hok : s.adapterErrs = []) (port : Word) (k : Byte → State → Out) :
    ioRead port s k = k (ioAnswer port s).1 (s.afterIoRead port (ioAnswer port s).1) := by
  rw [ioRead_ok hok, ioAnswer_logged]

/-- The parity flag of IN r,(C) counts the one bits of the byte (40_alu.md R147). -/
theorem loadFlags_parity (v : Byte) (f : Flags) :
    loadFlags v (parity v) f = { f with
      s := v.getLsbD 7, z := decide (v = 0), y := v.getLsbD 5, h := false, x := v.getLsbD 3
      pv := decide (onesIn v % 2 = 0), n := false } := by
  have hparity : parity v = decide (onesIn v % 2 = 0) := Bool.eq_iff_iff.mpr (by rw [parity_iff, decide_eq_true_iff])
  rw [hparity]
  rfl

/-- Settles O55: OUT is one logged call; IN writes the byte read to its register, IN r,(C) its flags too. -/
theorem inOutInstructions : Obligations.InOutInstructions := by
  refine ⟨fun s n hok => ?_, fun s r hok => ?_, fun s n hok => ?_, fun s r hok => ?_⟩
  · rw [exec_mkOutNA, opOutNA, ioWrite_ok hok]
    rfl
  · rw [exec_mkOutR, opOutR, ioWrite_ok hok]
    rfl
  · refine ⟨_, _, fun w ws h => ioAnswer_fst h (mkWord s.a n),
      (exec_mkInAN n s).trans (ioRead_afterIoRead hok (mkWord s.a n) _), ?_⟩
    exact writesReg8_setReg8 .none .a _ s.f 11 (s.afterIoRead (mkWord s.a n) _)
  · refine ⟨_, _, fun w ws h => ioAnswer_fst h s.bc,
      (exec_mkInR r s).trans (ioRead_afterIoRead hok s.bc _), ?_⟩
    rw [← loadFlags_parity]
    exact writesReg8_setReg8 .none r _ _ 12 (s.afterIoRead s.bc _)

end Sys2Proof.Machine
end

section
/-! SUPPORT. The CB rotates and shifts, RES and SET (44_cb_prefix.md R330 to R337, R339, R340, 47_index_prefix.md R429):
a register form is one register write, a memory form one read and one write of the same address. -/

namespace Sys2Proof.Machine

/-- A byte read, its result and the flags computed from it, and the result written back: what every CB form on memory
that stores does. -/
theorem memRead_memWrite_stores (g : Byte → Flags → Byte × Flags) (a : Word) (cost : Nat) {s : State}
    (hok : s.adapterErrs = []) (hwf : s.mem.wf = true) :
    ∃ t, (memRead a s fun v s1 => memWrite a (g v s1.f).1 (s1.setF (g v s1.f).2) fun s2 => .next (s2.addT cost)) =
        .next t ∧
      StoresByte a (g (s.mem.read a) s.f).1 (g (s.mem.read a) s.f).2 cost (s.afterRead a) t := by
  rw [memRead_ok hok, memWrite_ok (by exact hok)]
  exact ⟨_, rfl, storesByte_store (s := s.afterRead a) hwf _ _ _ _⟩

/-! ### Rotates and shifts -/

/-- Settles O52: the register form writes the operand and F; the memory form reads and writes at the effective
address. -/
theorem rotateInstructions : Obligations.RotateInstructions := by
  refine ⟨fun op n s => ?_, fun x op d s hok hwf => ?_⟩
  · exact ⟨_, exec_mkRotR op n s, writesReg8_setReg8 .none n _ _ 8 s⟩
  · rw [exec_mkRotM]
    exact memRead_memWrite_stores (rotate op) (ea x d s) _ hok hwf

/-! ### RES and SET -/

theorem Idx8.toNat_lt_eight (b : Idx8) : b.toNat < 8 := by
  cases b <;> decide

theorem getLsbD_bitMask (b : Idx8) (k : Nat) : (bitMask b).getLsbD k = decide (k = b.toNat) := by
  have hmask : bitMask b = BitVec.twoPow 8 b.toNat := (BitVec.twoPow_eq 8 b.toNat).symm
  rw [hmask, BitVec.getLsbD_twoPow, decide_eq_true (Idx8.toNat_lt_eight b), Bool.true_and]
  exact decide_eq_decide.mpr eq_comm

theorem getLsbD_resBit (b : Idx8) (v : Byte) {k : Nat} (hk : k < 8) :
    (resBit b v).getLsbD k = if k = b.toNat then false else v.getLsbD k := by
  rw [resBit, BitVec.getLsbD_and, BitVec.getLsbD_not, getLsbD_bitMask, decide_eq_true hk]
  split <;> simp [*]

theorem getLsbD_setBit (b : Idx8) (v : Byte) (k : Nat) :
    (setBit b v).getLsbD k = if k = b.toNat then true else v.getLsbD k := by
  rw [setBit, BitVec.getLsbD_or, getLsbD_bitMask]
  split <;> simp [*]

/-- F is written back as it was. -/
theorem opPutBitR_writes (g : Idx8 → Byte → Byte) (b : Idx8) (n : Reg8) (s : State) :
    ∃ t, opPutBitR g b n s = .next t ∧ WritesReg8 .none n (g b (reg8 .none n s)) s.f 8 s t :=
  ⟨_, rfl, writesReg8_setReg8 .none n _ s.f 8 s⟩

theorem opPutBitM_stores (g : Idx8 → Byte → Byte) (x : Ctx) (b : Idx8) (d : Byte) {s : State}
    (hok : s.adapterErrs = []) (hwf : s.mem.wf = true) :
    ∃ t, opPutBitM g x b d s = .next t ∧
      StoresByte (ea x d s) (g b (s.mem.read (ea x d s))) s.f (cbMemT x s.params 15 23) (s.afterRead (ea x d s)) t :=
  memRead_memWrite_stores (fun v f => (g b v, f)) (ea x d s) _ hok hwf

/-- Settles O54: the bits of `resBit` and `setBit`, then `opPutBitR` and `opPutBitM` at each of the two. -/
theorem bitWriteInstructions : Obligations.BitWriteInstructions := by
  refine ⟨fun b v k hk => ⟨getLsbD_resBit b v hk, getLsbD_setBit b v k⟩, fun b n s => ⟨?_, ?_⟩,
    fun x b d s hok hwf => ⟨?_, ?_⟩⟩
  · rw [exec_mkResR]
    exact opPutBitR_writes resBit b n s
  · rw [exec_mkSetR]
    exact opPutBitR_writes setBit b n s
  · rw [exec_mkResM]
    exact opPutBitM_stores resBit x b d hok hwf
  · rw [exec_mkSetM]
    exact opPutBitM_stores setBit x b d hok hwf

end Sys2Proof.Machine
end

section
/-! SUPPORT. NEG, RRD, RLD and the moves of I and R (45_ed_prefix.md R360, R364 to R369): the bytes RRD and RLD leave
are each one nibble above another. -/

namespace Sys2Proof.Machine

/-! ### Nibbles -/

theorem toNat_shiftRight_four (v : Byte) : (v >>> 4).toNat = v.toNat / 16 :=
  (BitVec.toNat_ushiftRight v 4).trans (Nat.shiftRight_eq_div_pow v.toNat 4)

theorem toNat_shiftLeft_four (v : Byte) : (v <<< 4).toNat = v.toNat % 16 * 16 := by
  rw [BitVec.toNat_shiftLeft, Nat.shiftLeft_eq]
  omega

theorem toNat_and_0x0F (v : Byte) : (v &&& 0x0F).toNat = v.toNat % 16 :=
  (BitVec.toNat_and v 0x0F).trans (Nat.and_two_pow_sub_one_eq_mod v.toNat 4)

/-- Masking with F0h is shifting the low nibble out and zeros in. -/
theorem toNat_and_0xF0 (v : Byte) : (v &&& 0xF0).toNat = v.toNat / 16 * 16 := by
  have hshift : v >>> 4 <<< 4 = v &&& 0xF0 := BitVec.shiftLeft_ushiftRight
  have := v.isLt
  rw [← hshift, toNat_shiftLeft_four, toNat_shiftRight_four]
  omega

/-- A byte whose low nibble is 0 or a low nibble is their sum: no bit is in both. -/
theorem toNat_or_nibbles {hi lo : Byte} {m n : Nat} (hhi : hi.toNat = m * 16) (hlo : lo.toNat = n) (hn : n < 16) :
    (hi ||| lo).toNat = m * 16 + n := by
  rw [BitVec.toNat_or, hhi, hlo, Nat.mul_comm]
  exact (Nat.two_pow_add_eq_or_of_lt (i := 4) hn m).symm

theorem toNat_rrdMem (a m : Byte) : (rrdMem a m).toNat = a.toNat % 16 * 16 + m.toNat / 16 :=
  toNat_or_nibbles (toNat_shiftLeft_four a) (toNat_shiftRight_four m) (by omega)

theorem toNat_rrdA (a m : Byte) : (rrdA a m).toNat = a.toNat / 16 * 16 + m.toNat % 16 :=
  toNat_or_nibbles (toNat_and_0xF0 a) (toNat_and_0x0F m) (by omega)

theorem toNat_rldMem (a m : Byte) : (rldMem a m).toNat = m.toNat % 16 * 16 + a.toNat % 16 :=
  toNat_or_nibbles (toNat_shiftLeft_four m) (toNat_and_0x0F a) (by omega)

theorem toNat_rldA (a m : Byte) : (rldA a m).toNat = a.toNat / 16 * 16 + m.toNat / 16 :=
  toNat_or_nibbles (toNat_and_0xF0 a) (toNat_shiftRight_four m) (by omega)

/-! ### RRD and RLD -/

/-- The state after RRD or RLD stored `v` at HL and left `r` in A, the read and the write logged. -/
def State.nibblesTurned (v r : Byte) (s : State) : State :=
  { s with
    a := r, mem := s.mem.write s.hl v, tstates := s.tstates + 18
    trace := .memWrite s.hl v :: .memRead s.hl (s.mem.read s.hl) :: s.trace
    f := { s.f with
      s := r.getLsbD 7, z := decide (r = 0), y := r.getLsbD 5, h := false, x := r.getLsbD 3
      pv := decide (onesIn r % 2 = 0), n := false } }

theorem opNibbles_ok {s : State} (hok : s.adapterErrs = []) (toMem toA : Byte → Byte → Byte) :
    opNibbles toMem toA s =
      .next (s.nibblesTurned (toMem s.a (s.mem.read s.hl)) (toA s.a (s.mem.read s.hl))) := by
  rw [opNibbles, memRead_ok hok, memWrite_ok (by exact hok), loadFlags_parity]
  rfl

/-- Both instructions, with the two bytes as numbers. -/
theorem exec_nibblesTurned {s : State} (hok : s.adapterErrs = []) (right : Bool) :
    let a := s.a.toNat
    let m := (s.mem.read s.hl).toNat
    ∃ v r, exec (if right then .rrd else .rld) s = .next (s.nibblesTurned v r) ∧
      v.toNat = (if right then a % 16 * 16 + m / 16 else m % 16 * 16 + a % 16) ∧
      r.toNat = a / 16 * 16 + (if right then m % 16 else m / 16) := by
  cases right with
  | true =>
    exact ⟨_, _, (exec_mkRrd s).trans (opNibbles_ok hok rrdMem rrdA), toNat_rrdMem .., toNat_rrdA ..⟩
  | false =>
    exact ⟨_, _, (exec_mkRld s).trans (opNibbles_ok hok rldMem rldA), toNat_rldMem .., toNat_rldA ..⟩

/-- Settles O43: NEG writes A and F; the byte RRD or RLD stores is read back at HL, and nothing else is stored. -/
theorem negAndDigitRotates : Obligations.NegAndDigitRotates := by
  refine ⟨fun s => ⟨_, exec_mkNeg s, writesReg8_setAF (sub8 0 s.a false) 8 s⟩, fun s right hok hwf => ?_⟩
  obtain ⟨v, r, hexec, hv, hr⟩ := exec_nibblesTurned hok right
  have hread : (s.nibblesTurned v r).mem.read s.hl = v := Memory.read_write_same hwf s.hl v
  refine ⟨_, hexec, (congrArg BitVec.toNat hread).trans hv, hr, fun b hb => Memory.read_write_other hwf hb v, ?_⟩
  rw [hread]
  rfl

/-! ### I and R -/

/-- LD A,I and LD A,R: PV is IFF2, C is kept. -/
theorem opLdASpecial_eq (v : Byte) (s : State) :
    opLdASpecial v s = .next { s with
      a := v, tstates := s.tstates + 9
      f := { s.f with
        s := v.getLsbD 7, z := decide (v = 0), y := v.getLsbD 5, h := false, x := v.getLsbD 3
        pv := s.iff2, n := false } } := rfl

/-- Settles O60: LD I,A and LD R,A are one record update each; LD A,I and LD A,R are `opLdASpecial` at I and at R. -/
theorem specialRegisterMoves : Obligations.SpecialRegisterMoves := by
  refine fun s => ⟨exec_mkLdIA s, exec_mkLdRA s, fun fromR => ?_⟩
  cases fromR with
  | true => exact (exec_mkLdAR s).trans (opLdASpecial_eq s.r s)
  | false => exact (exec_mkLdAI s).trans (opLdASpecial_eq s.i s)

end Sys2Proof.Machine
end

section
/-! SUPPORT. The block instructions (46_block.md R390 to R407): every iteration ends in `repeatEnd`, which rewinds PC or
lets it stand, and the repeat conditions test a counter already counted down. Each proof runs the operation to its next
state; where it makes two calls, the named updates are first written out as one record, which `rfl` then compares with
the frame. -/

namespace Sys2Proof.Machine

/-! ### What the four families share -/

/-- The rewind and the cost of an iteration (R391). -/
theorem repeatEnd_eq (again : Bool) (s : State) :
    repeatEnd again s =
      .next { s with pc := blockPC again s.pc, tstates := s.tstates + blockCost again } := by
  cases again <;> rfl

theorem decide_sub_eq_zero {w : Nat} (x y : BitVec w) : decide (x - y = 0) = decide (x = y) :=
  decide_eq_decide.mpr sub_eq_zero

theorem decide_sub_ne_zero {w : Nat} (x y : BitVec w) : decide (x - y ≠ 0) = decide (x ≠ y) :=
  decide_eq_decide.mpr sub_ne_zero

/-! ### The copy instructions -/

theorem exec_blockCopy (up rep : Bool) (s : State) : exec (blockCopy up rep) s = opCopy up rep s := by
  cases up <;> cases rep <;> rfl

/-- Settles O56: the byte read at HL is stored at DE; each pair reads back the word it was set to. -/
theorem blockCopyInstructions : Obligations.BlockCopyInstructions := by
  intro up rep s hok hwf
  rw [exec_blockCopy, opCopy, memRead_ok hok, memWrite_ok (by exact hok), repeatEnd_eq, decide_sub_ne_zero]
  simp only [State.setF, State.setBC, State.setDE, State.setHL, State.logged, State.store]
  refine ⟨_, rfl, ?_, ?_, ?_, ?_, fun b hb => ?_, rfl⟩
  · exact State.hl_setHL (stepped up s.hl) s
  · exact State.de_setDE (stepped up s.de) s
  · exact State.bc_setBC (s.bc - 1) s
  · exact Memory.read_write_same hwf s.de _
  · exact Memory.read_write_other hwf hb _

/-! ### The compare instructions -/

theorem exec_blockCompare (up rep : Bool) (s : State) : exec (blockCompare up rep) s = opCompare up rep s := by
  cases up <;> cases rep <;> rfl

theorem bitByte_eq_ite (b : Bool) : bitByte b = if b then 1 else 0 := by
  cases b <;> rfl

/-- The flags of a compare iteration, Z as equality of the two bytes and H as a number (R396). -/
theorem compareFlags_eq (a v : Byte) (bcLeft : Bool) (f : Flags) :
    let h := decide (a.toNat % 16 < v.toNat % 16)
    let n := a - v - (if h then 1 else 0)
    compareFlags a v bcLeft f = { f with
      s := (a - v).getLsbD 7, z := decide (a = v), h := h, n := true, pv := bcLeft
      x := n.getLsbD 3, y := n.getLsbD 1 } := by
  rw [compareFlags, decide_sub_eq_zero, bitByte_eq_ite]

/-- Settles O57: one read, then HL and BC set; the two conditions for the rewind are BC ≠ 1 and A ≠ the byte. -/
theorem blockCompareInstructions : Obligations.BlockCompareInstructions := by
  intro up rep s hok
  rw [exec_blockCompare, opCompare, memRead_ok hok, repeatEnd_eq, compareFlags_eq, decide_sub_ne_zero,
    decide_sub_ne_zero]
  exact ⟨_, rfl, State.hl_setHL (stepped up s.hl) s, State.bc_setBC (s.bc - 1) s, rfl⟩

/-! ### The input and output instructions -/

theorem exec_blockInput (up rep : Bool) (s : State) : exec (blockInput up rep) s = opInput up rep s := by
  cases up <;> cases rep <;> rfl

theorem exec_blockOutput (up rep : Bool) (s : State) : exec (blockOutput up rep) s = opOutput up rep s := by
  cases up <;> cases rep <;> rfl

/-- Settles O58: the calls of the port B:C and of the byte at HL, then `blockIoStep` in the state they leave. -/
theorem blockInOutInstructions : Obligations.BlockInOutInstructions := by
  intro up rep s hok hwf
  refine ⟨?_, ?_⟩
  · rw [exec_blockInput, opInput, ioRead_afterIoRead hok, memWrite_ok (by exact hok), repeatEnd_eq,
      decide_sub_ne_zero, blockIoStep, decide_sub_eq_zero]
    simp only [State.setHL, State.afterIoRead, State.logged, State.store]
    refine ⟨_, _, fun w ws h => ioAnswer_fst h s.bc, rfl, ?_, ?_, fun b hb => ?_, rfl⟩
    · exact State.hl_setHL (stepped up s.hl) s
    · exact Memory.read_write_same hwf s.hl _
    · exact Memory.read_write_other hwf hb _
  · rw [exec_blockOutput, opOutput, memRead_ok hok, ioWrite_ok (by exact hok), repeatEnd_eq,
      decide_sub_ne_zero, blockIoStep, decide_sub_eq_zero]
    simp only [State.setHL, State.logged]
    exact ⟨_, rfl, State.hl_setHL (stepped up s.hl) s, rfl⟩

end Sys2Proof.Machine
end

section
/-! SUPPORT. The pass-through opcodes (47_index_prefix.md R425, R426): the walk along a tree that spells its instruction
is the same whatever was fetched before, and only hands on the T-states a pass-through byte has added. -/

namespace Sys2Proof

open Sys2Proof.Machine

/-- The bytes alone decide where the walk ends. -/
theorem Dec.Spells.run_cases {d : Dec} {n : Nat} {pre : List Byte} (hd : d.Spells n pre) (bs : List Byte) :
    (∀ passT fetched, d.run passT fetched bs = .truncated) ∨
    (∃ i rest, ∀ passT fetched, d.run passT fetched bs = .instr i passT rest) := by
  induction d generalizing pre n bs with
  | done i => exact .inr ⟨i, bs, fun _ _ => rfl⟩
  | unknown => cases hd
  | pass next => cases hd
  | more m1 next ih =>
    obtain ⟨k, rfl, rfl, hnext⟩ := hd.more_inv
    cases bs with
    | nil => exact .inl fun _ _ => rfl
    | cons b bs =>
      obtain htrunc | ⟨i, rest, hinstr⟩ := ih b (hnext b) bs
      · exact .inl fun passT fetched => htrunc passT (fetched ++ [b])
      · exact .inr ⟨i, rest, fun passT fetched => hinstr passT (fetched ++ [b])⟩

theorem exists_ctx_bytes {b : Byte} (hb : b = 0xDD ∨ b = 0xFD) : ∃ x : Ctx, x.bytes = [b] := by
  obtain rfl | rfl := hb
  · exact ⟨.ix, rfl⟩
  · exact ⟨.iy, rfl⟩

/-- The pass-through opcodes of R425, by R426 none of the six cells that are faults or the indexed CB forms. -/
theorem afterIndex_pass (x : Ctx) {op : Byte} (hop : op ∉ ([0xCB, 0xDD, 0xED, 0xFD, 0xEB, 0xD9] : List Byte))
    (hu : usesHL op = false) : startsTwo op = false ∧ afterIndex x op = .pass (decodeBase .none op) := by
  simp only [List.mem_cons, List.not_mem_nil, or_false, not_or] at hop
  obtain ⟨hcb, hdd, hed, hfd, heb, hd9⟩ := hop
  obtain ⟨ha, -⟩ | ⟨-, hbase, ⟨hhl, -⟩ | ⟨-, ht⟩⟩ := afterIndex_cases x hcb
  · simp only [admittedIndex_eq_false, hdd, hfd, hed, heb, hd9, or_self] at ha
  · cases hu.symm.trans hhl
  · exact ⟨hbase, ht⟩

/-- Settles O15: both sides walk the base tree of the opcode, which spells an instruction; the count is evaluated. -/
theorem passThroughBytes : Obligations.PassThroughBytes := by
  refine ⟨fun b op rest hb hop hu => ?_, by decide +kernel⟩
  obtain ⟨x, hx⟩ := exists_ctx_bytes hb
  obtain ⟨hbase, ht⟩ := afterIndex_pass x hop hu
  have hspells : (decodeBase .none op).Spells 2 [op] := decodeBase_none_cell hbase
  rw [decode_index hx, ht, decode_base hbase, Dec.run]
  obtain htrunc | ⟨i, rest', hinstr⟩ := hspells.run_cases rest
  · rw [htrunc, htrunc]
  · rw [hinstr, hinstr]

end Sys2Proof
end

section
/-! SUPPORT. The interrupt check, the halted step and the acceptance in each mode, with no error waiting
(60_exceptions.md R482, R491 to R500). -/

namespace Sys2Proof.Machine

/-! ### The check -/

/-- IFF1 set and no mark: the registry is asked, and the source it answers is accepted (R491, R492). -/
theorem interruptCheck_asks {s s1 : State} {o : Option Source} (hd : s.eiDiDelay = false) (hi : s.iff1 = true)
    (hok : s.adapterErrs = []) (hp : pendingAnswer s = (o, s1)) (k : State → Out) :
    interruptCheck s k = o.elim (k (s1.logged (.getPendingSource none))) fun h =>
      acceptInterrupt h (s1.logged (.getPendingSource (some h.handle))) k := by
  rw [interruptCheck, if_neg (Bool.eq_false_iff.mp hd), if_pos hi, getPendingSource_ok hok, hp]
  cases o <;> rfl

section
variable {s : State} (hf : s.fault = none) (hd : s.eiDiDelay = false) (hi : s.iff1 = true)
  (hok : s.adapterErrs = [])
include hf hd hi hok

/-- The registry was asked and answered that nothing is pending. -/
theorem step_of_none_pending {s1 : State} (hp : pendingAnswer { s with start := s.pc } = (none, s1)) :
    step s = haltOrExecute (s1.logged (.getPendingSource none)) := by
  rw [step_of_no_fault hf]
  exact interruptCheck_asks (s := { s with start := s.pc }) hd hi hok hp haltOrExecute

theorem step_of_listed_none {rest : List (Option Source)} (hirqs : s.irqs = none :: rest) :
    step s = haltOrExecute { s with start := s.pc, irqs := rest, trace := .getPendingSource none :: s.trace } :=
  step_of_none_pending hf hd hi hok (pendingAnswer_listed (by exact hirqs))

/-- Past the end of its list of answers the registry has nothing pending (log 6). -/
theorem step_of_no_answers (hirqs : s.irqs = []) :
    step s = haltOrExecute { s with start := s.pc, trace := .getPendingSource none :: s.trace } :=
  step_of_none_pending hf hd hi hok (pendingAnswer_end (by exact hirqs))

end

/-- The check is left out: the mark is cleared and the step goes on (R491, R492). -/
theorem step_of_noCheck_eq_haltOrExecute {s : State} (hf : s.fault = none) (hn : s.noCheck) :
    step s = haltOrExecute { s with start := s.pc, eiDiDelay := false } := by
  rw [step_of_no_fault hf]
  exact interruptCheck_of_noCheck (s := { s with start := s.pc }) hn haltOrExecute

/-- Settles O26: without a check the mark is cleared, which changes nothing where it is down; with one the registry
answers none. (`interruptCheck` is the model's function.) -/
theorem interruptCheck_settled : Obligations.InterruptCheck := by
  refine ⟨fun s hf hd => step_of_noCheck_eq_haltOrExecute hf (.inl hd), fun s hf hd hi => ?_,
    fun s rest hf hd hi hok => step_of_listed_none hf hd hi hok,
    fun s hf hd hi hok => step_of_no_answers hf hd hi hok⟩
  have hsame : { s with start := s.pc, eiDiDelay := false } = { s with start := s.pc } := by rw [← hd]
  rw [step_of_noCheck_eq_haltOrExecute hf (.inr hi), hsame]

theorem haltOrExecute_of_halted {s : State} (h : s.halted = true) :
    haltOrExecute s = .next { s with r := nextR s.r, tstates := s.tstates + 4 } :=
  if_pos h

/-- Settles O25: in each of the three cases the check goes on, and a halted core idles. -/
theorem haltedStepIdles : Obligations.HaltedStepIdles := by
  refine ⟨fun s hf hh hn => ?_, fun s rest hf hh hd hi hok hirqs => ?_, fun s hf hh hd hi hok hirqs => ?_⟩
  · rw [step_of_noCheck_eq_haltOrExecute hf hn]
    exact haltOrExecute_of_halted hh
  · rw [step_of_listed_none hf hd hi hok hirqs]
    exact haltOrExecute_of_halted hh
  · rw [step_of_no_answers hf hd hi hok hirqs]
    exact haltOrExecute_of_halted hh

/-! ### The acceptance -/

/-- The state of an accepting core when the registry has answered with the source `h`. -/
def State.asked (h : Source) (rest : List (Option Source)) (s : State) : State :=
  { s with start := s.pc, irqs := rest, trace := .getPendingSource (some h.handle) :: s.trace }

theorem State.Accepting.step_eq {s : State} {h : Source} {rest : List (Option Source)} (ha : s.Accepting h rest) :
    step s = acceptInterrupt h (s.asked h rest) haltOrExecute := by
  rw [step_of_no_fault ha.running]
  exact interruptCheck_asks (s := { s with start := s.pc }) ha.noDelay ha.enabled ha.noError
    (pendingAnswer_listed (by exact ha.pending)) haltOrExecute

theorem acceptInterrupt_unsupported {s : State} (hs : s.params.supports s.im = false) (src : Source)
    (k : State → Out) : acceptInterrupt src s k = raise (.unsupportedInterruptMode s.pc s.im none) s := by
  rw [acceptInterrupt, if_neg (Bool.eq_false_iff.mp hs)]

/-- The state after the source has been called (R493). -/
def State.sourceCalled (src : Source) (s : State) : State :=
  State.logged (.acceptInterrupt src.handle src.vector) { s with iff1 := false, iff2 := false }

section
variable {s : State} (hok : s.adapterErrs = [])
include hok

/-- Mode 0 (R497): the RST byte is the target, any other byte the fault. -/
theorem acceptInterrupt_im0_ok (hm : s.im = .im0) (hs : s.params.im0 = true) (src : Source) (k : State → Out) :
    acceptInterrupt src s k =
      if src.vector &&& 0xC7 = 0xC7 then
        k (enterHandler (zext16 (src.vector &&& 0x38)) src.handle 13
          (State.pushed s.pc { s.sourceCalled src with halted := false }))
      else raise (.unsupportedInterruptMode s.pc .im0 (some src.vector)) (s.sourceCalled src) := by
  rw [acceptInterrupt, if_pos (by rw [hm]; exact hs), callAcceptInterrupt_ok (by exact hok)]
  simp only [State.sourceCalled, State.logged_im, hm]
  rw [pushAndEnter_ok (by exact hok)]
  rfl

/-- Mode 2 (R494): the table entry is read after the push. -/
theorem acceptInterrupt_im2_ok (hm : s.im = .im2) (src : Source) (k : State → Out) :
    acceptInterrupt src s k =
      let t := State.pushed s.pc { s.sourceCalled src with halted := false }
      k (enterHandler (wordAt t.mem (mkWord s.i src.vector)) src.handle 19
        (t.afterRead2 (mkWord s.i src.vector))) := by
  rw [acceptInterrupt, if_pos (by rw [hm]; rfl), callAcceptInterrupt_ok (by exact hok)]
  simp only [State.sourceCalled, State.logged_im, hm]
  rw [push16_ok (by exact hok), memRead2_ok (by exact hok)]
  rfl

end

/-- Settles O29: an unsupported mode faults before the source is called, a byte that is no RST after the call. -/
theorem acceptanceFaults : Obligations.AcceptanceFaults := by
  refine ⟨fun s h rest ha hs => ?_, fun s h rest ha hm hs hv => ?_⟩
  · rw [ha.step_eq, acceptInterrupt_unsupported (s := s.asked h rest) hs]
    rfl
  · rw [ha.step_eq, acceptInterrupt_im0_ok (s := s.asked h rest) ha.noError hm hs, if_neg hv]
    rfl

theorem enterHandler_eq (target : Word) (handle cost : Nat) (s : State) :
    enterHandler target handle cost s = { s with
      pc := target, inService := handle :: s.inService, r := nextR s.r, tstates := s.tstates + cost } := rfl

/-- The state when PC has been pushed, with `m` the memory the push left (R493). -/
def State.pcSaved (src : Source) (m : Memory) (s : State) : State :=
  { s with
    iff1 := false, iff2 := false, halted := false, sp := s.sp - 2, mem := m
    trace := .memWrite (s.sp - 2) (loByte s.pc) :: .memWrite (s.sp - 1) (hiByte s.pc) ::
      .acceptInterrupt src.handle src.vector :: s.trace }

/-- `PushesWord` for the push of an acceptance. -/
theorem State.pushed_sourceCalled {s : State} (hwf : s.mem.wf = true) (src : Source) :
    ∃ m : Memory, State.pushed s.pc { s.sourceCalled src with halted := false } = s.pcSaved src m ∧
      m.read (s.sp - 1) = hiByte s.pc ∧ m.read (s.sp - 2) = loByte s.pc ∧
      ∀ b, b ≠ s.sp - 1 → b ≠ s.sp - 2 → m.read b = s.mem.read b := by
  obtain ⟨hhigh, hlow, hother, -⟩ := pushesWord_pushed hwf s.pc 0 0
  have hsp : s.sp - 1 - 1 = s.sp - 2 := by bv_omega
  refine ⟨_, ?_, hhigh, hlow, hother⟩
  rw [State.pcSaved, ← hsp]
  rfl

/-- Settles O27: PC is pushed, and the table entry is read from the memory the push leaves. -/
theorem acceptInMode2 : Obligations.AcceptInMode2 := by
  intro s h rest ha hm entry
  obtain ⟨m, hsaved, hhigh, hlow, hother⟩ := State.pushed_sourceCalled (s := s.asked h rest) ha.memWf h
  have hstep := ha.step_eq.trans (acceptInterrupt_im2_ok (s := s.asked h rest) ha.noError hm h haltOrExecute)
  rw [hsaved] at hstep
  refine ⟨_, hstep.trans (haltOrExecute_of_running rfl), hhigh, hlow, hother, ?_⟩
  simp only [enterHandler_eq, State.afterRead2, State.pcSaved, State.asked, entry]

/-- Modes 0 and 1 push PC and enter the handler (R493, R496, R497). -/
theorem acceptInterrupt_im0_im1 {s : State} {src : Source} {target : Word} (hok : s.adapterErrs = [])
    (htarget : target = if s.im = .im1 then 0x0038 else zext16 (src.vector &&& 0x38))
    (hmode : (s.im = .im1 ∧ s.params.im1 = true) ∨
      (s.im = .im0 ∧ s.params.im0 = true ∧ src.vector &&& 0xC7 = 0xC7)) (k : State → Out) :
    acceptInterrupt src s k =
      k (enterHandler target src.handle 13 (State.pushed s.pc { s.sourceCalled src with halted := false })) := by
  rw [htarget]
  obtain ⟨hm, hs⟩ | ⟨hm, hs, hv⟩ := hmode
  · rw [acceptInterrupt_im1_ok hok hm hs, if_pos hm]
    rfl
  · rw [acceptInterrupt_im0_ok hok hm hs, if_pos hv, if_neg (by rw [hm]; decide)]

/-- Settles O28: as in mode 2, without the table. -/
theorem acceptInModes0And1 : Obligations.AcceptInModes0And1 := by
  intro s h rest ha hmode target
  obtain ⟨m, hsaved, hhigh, hlow, hother⟩ := State.pushed_sourceCalled (s := s.asked h rest) ha.memWf h
  have hstep := ha.step_eq.trans
    (acceptInterrupt_im0_im1 (s := s.asked h rest) (target := target) ha.noError rfl hmode haltOrExecute)
  rw [hsaved] at hstep
  refine ⟨_, hstep.trans (haltOrExecute_of_running rfl), hhigh, hlow, hother, ?_⟩
  simp only [enterHandler_eq, State.pcSaved, State.asked]

end Sys2Proof.Machine
end

section
/-! SUPPORT. A fetch that reports an error (60_exceptions.md R483, R484, 20_memory.md R78): `fetchTree` stops at the byte
whose read fails, and the state there is `State.partFetch`. -/

namespace Sys2Proof

open Sys2Proof.Machine

/-- How many of the bytes the tree fetches. -/
def Dec.fetches : Dec → List Byte → Nat
  | .more _ next, b :: bs => (next b).fetches bs + 1
  | .pass next, bs => next.fetches bs
  | _, _ => 0

/-- The number of bytes fetched, as the result tells it: the bytes not left over, or those it reports. -/
theorem Dec.fetches_run (d : Dec) (passT : Nat) (fetched bs : List Byte) :
    match d.run passT fetched bs with
    | .instr _ _ rest => d.fetches bs + rest.length = bs.length
    | .unknownOpcode bytes => fetched.length + d.fetches bs = bytes.length
    | .truncated => d.fetches bs = bs.length := by
  induction d generalizing passT fetched bs with
  | done i => exact Nat.zero_add _
  | unknown => rfl
  | pass next ih => exact ih (passT + 4) fetched bs
  | more m1 next ih =>
    cases bs with
    | nil => rfl
    | cons b bs =>
      have hnext := ih b passT (fetched ++ [b]) bs
      rw [List.length_append, List.length_singleton] at hnext
      rw [Dec.run, Dec.fetches, List.length_cons]
      generalize (next b).run passT (fetched ++ [b]) bs = res at hnext ⊢
      cases res <;> dsimp only at hnext ⊢ <;> omega

/-- With no byte to fetch R stays. -/
theorem Dec.countR_nil (d : Dec) (r : Byte) : d.countR [] r = r := by
  induction d with
  | pass next ih => exact ih
  | _ => rfl

theorem decoder_countR_one (b r : Byte) : decoder.countR [b] r = nextR r :=
  (afterFirst b).countR_nil (nextR r)

end Sys2Proof

namespace Sys2Proof.Machine

theorem State.fetchLength_eq (s : State) : s.fetchLength = decoder.fetches (bytesAt s.mem s.pc 4) := by
  have hrun := decoder.fetches_run 0 [] (bytesAt s.mem s.pc 4)
  rw [length_bytesAt] at hrun
  unfold State.fetchLength decode
  generalize decoder.run 0 [] (bytesAt s.mem s.pc 4) = res at hrun ⊢
  cases res with
  | instr i p rest => exact Nat.sub_eq_of_eq_add hrun.symm
  | unknownOpcode bytes => exact hrun.symm.trans (Nat.zero_add _)
  | truncated => exact hrun.symm

/-- The fetch that fails raises AdapterError where it stands. -/
theorem memRead_of_error {s : State} {err : Nat} {es : List (Option Nat)} (h : s.adapterErrs = some err :: es)
    (a : Word) (k : Byte → State → Out) :
    memRead a s k = raise (.adapterError s.start .mem .readByte (some a) err) { s with adapterErrs := es } := by
  rw [memRead, adapterCall, h]
  rfl

theorem add_ofNat_succ (a : Word) (k : Nat) : a + 1 + BitVec.ofNat 16 k = a + BitVec.ofNat 16 (k + 1) := by
  rw [BitVec.ofNat_add, BitVec.add_assoc, BitVec.add_comm 1]
  rfl

/-- Fetching stops at byte `k` where the first `k` fetches succeed and the next fails. -/
theorem fetchTree_error {d : Dec} {passT n k err : Nat} {fetched : List Byte} {es : List (Option Nat)} {s : State}
    (hk : k < d.fetches (bytesAt s.mem s.pc n)) (hnone : s.NoErrors k) (herr : s.adapterErrs.drop k = some err :: es)
    (go : Instr → Nat → State → Out) :
    fetchTree d passT fetched s go =
      raise (.adapterError s.start .mem .readByte (some (s.pc + BitVec.ofNat 16 k)) err)
        { s.fetchedBytes k (d.countR (bytesAt s.mem s.pc k) s.r) with adapterErrs := es } := by
  induction d generalizing passT fetched n k s with
  | done i => cases hk
  | unknown => cases hk
  | pass next ih => exact ih hk hnone herr
  | more m1 next ih =>
    cases n with
    | zero => cases hk
    | succ n =>
      cases k with
      | zero =>
        rw [fetchTree, memRead_of_error herr]
        simp [State.fetchedBytes, Dec.countR, bytesAt, readsAt]
      | succ k =>
        have hk' : k < (next (s.mem.read s.pc)).fetches
            (bytesAt (s.fetchedByte m1).mem (s.fetchedByte m1).pc n) := by
          rw [State.fetchedByte_mem, State.fetchedByte_pc]
          exact Nat.lt_of_succ_lt_succ hk
        have herr' : (s.fetchedByte m1).adapterErrs.drop k = some err :: es := by
          rw [State.fetchedByte_eq, List.drop_tail, herr]
        rw [fetchTree_more hnone, ih _ hk' (hnone.fetchedByte m1) herr', State.fetchedBytes_succ,
          State.fetchedByte_start, State.fetchedByte_pc, State.fetchedByte_mem, State.fetchedByte_r, add_ofNat_succ]
        rfl

/-- R counts the opcode bytes among the first `k` bytes (10_state.md R36). -/
theorem decoder_countR_part (s : State) (k : Nat) :
    decoder.countR (bytesAt s.mem s.pc k) s.r = (s.partFetch k).r := by
  match k with
  | 0 => exact decoder.countR_nil s.r
  | 1 => exact decoder_countR_one _ s.r
  | k + 2 =>
    rw [bytesAt, bytesAt, decoder_countR]
    cases hb : startsTwo (s.mem.read s.pc) <;> simp [State.partFetch, hb]

theorem executeInstruction_error {s : State} {k err : Nat} {es : List (Option Nat)} (hk : k < s.fetchLength)
    (hnone : s.NoErrors k) (herr : s.adapterErrs.drop k = some err :: es) :
    executeInstruction s = .fault (.adapterError { s.partFetch k with
      adapterErrs := es
      fault := some (.adapterError s.pc .mem .readByte (some (s.pc + BitVec.ofNat 16 k)) err) }) := by
  rw [State.fetchLength_eq] at hk
  rw [executeInstruction, fetchTree_error (s := { s with start := s.pc }) hk hnone herr, decoder_countR_part]
  rfl

/-- Every instruction has a first byte. -/
theorem State.fetchLength_pos (s : State) : 0 < s.fetchLength := by
  rw [State.fetchLength_eq, decoder_eq]
  exact Nat.succ_pos _

theorem State.partFetch_zero (s : State) : s.partFetch 0 = { s with start := s.pc } := by
  simp [State.partFetch, State.afterFetch, readsAt]

/-- Settles O30: the first clause is the second at the first byte. -/
theorem fetchErrorFaults : Obligations.FetchErrorFaults := by
  refine ⟨fun s err es hf hh hn herr => ?_, fun s k err es => executeInstruction_error⟩
  rw [step_of_noCheck hf hh hn]
  have hfirst := executeInstruction_error (s := { s with start := s.pc, eiDiDelay := false }) (k := 0)
    (State.fetchLength_pos _) nofun herr
  rwa [State.partFetch_zero, BitVec.add_zero] at hfirst

end Sys2Proof.Machine
end

section
/-! SUPPORT. Which calls an instruction and a step make and what becomes of the first error (20_memory.md R78,
60_exceptions.md R483 to R485; log 7, 10): one relation, `CallsMade`, for the calls that succeeded, and one rule for each
operation, `Midway.<op>`, which follows it up to the first call that fails. -/

namespace Sys2Proof.Machine

/-! ### The calls that succeeded -/

/-- From `s` to `t` some calls completed: they are logged, an entry of the list of coming errors is used up for each, and
none of these entries is an error. It speaks of no other field, so a proof of it for `t` is, by unfolding, one for `t`
with any register changed. -/
def CallsMade (s t : State) : Prop :=
  ∃ calls, CallsSucceeded calls s t ∧ t.adapterErrs = s.adapterErrs.drop calls.length

namespace CallsMade

theorem refl (s : State) : CallsMade s s := ⟨[], ⟨rfl, by simp⟩, rfl⟩

theorem trans {s u t : State} (hu : CallsMade s u) (ht : CallsMade u t) : CallsMade s t := by
  obtain ⟨calls, ⟨hlog, hnone⟩, hdrop⟩ := hu
  obtain ⟨later, ⟨hlog', hnone'⟩, hdrop'⟩ := ht
  have hlen : (later ++ calls).length = calls.length + later.length := by
    rw [List.length_append, Nat.add_comm]
  refine ⟨later ++ calls, ⟨?_, ?_⟩, ?_⟩
  · rw [hlog', hlog, List.append_assoc]
  · rw [hlen, List.take_add, ← hdrop]
    intro e he
    exact (List.mem_append.mp he).elim (hnone e) (hnone' e)
  · rw [hdrop', hdrop, List.drop_drop, hlen]

/-- One call, where the next entry of the list is no error. -/
theorem logged_called {s : State} (h : ∀ err es, s.adapterErrs ≠ some err :: es) (ev : BusCall) :
    CallsMade s (s.called.logged ev) := by
  refine ⟨[ev], ⟨rfl, ?_⟩, List.drop_one.symm⟩
  rcases hs : s.adapterErrs with _ | ⟨_ | err, es⟩
  · simp
  · simp
  · exact absurd hs (h err es)

end CallsMade

/-- The core `c` holds the fault of the first call after `s` that reported an error: the record names the instruction of
`s` and that error, the calls before it succeeded, and no T-states were added (60_exceptions.md R483, R484). -/
def FirstError (s c : State) : Prop :=
  ∃ ad call addr err calls, c.fault = some (.adapterError s.start ad call addr err) ∧
    CallsSucceeded calls s c ∧ s.adapterErrs.drop calls.length = some err :: c.adapterErrs ∧ c.tstates = s.tstates

/-! ### One rule per operation -/

/-- On the way from `s` the calls up to `u` succeeded, no T-states were added, and the fault of the first error would be
an outcome with `Q`. Like `CallsMade` it speaks of no register. -/
def Midway (s : State) (Q : Out → Prop) (u : State) : Prop :=
  CallsMade s u ∧ u.start = s.start ∧ u.tstates = s.tstates ∧ ∀ c, FirstError s c → Q (.fault (.adapterError c))

/-- A fault is no next state. -/
theorem Midway.refl_ends (s : State) (Q : State → Prop) : Midway s (Ends Q) s :=
  ⟨.refl s, rfl, rfl, by rintro c - _ ⟨⟩⟩

namespace Midway

section
variable {s u : State} {Q : Out → Prop} (hu : Midway s Q u)
include hu

theorem callsMade : CallsMade s u := hu.1

/-! Writing a register operand is no call. -/

theorem setF (g : Flags) : Midway s Q (u.setF g) := hu

theorem setReg8 (x : Ctx) (n : Reg8) (v : Byte) : Midway s Q (setReg8 x n v u) := by
  cases n <;> cases x <;> exact hu

theorem setRegHL (x : Ctx) (v : Word) : Midway s Q (setRegHL x v u) := by
  cases x <;> exact hu

theorem setReg16 (x : Ctx) (p : Rp) (v : Word) : Midway s Q (setReg16 x p v u) := by
  cases p
  case hl => exact setRegHL hu x v
  all_goals exact hu

theorem setReg16af (x : Ctx) (p : Rp2) (v : Word) : Midway s Q (setReg16af x p v u) := by
  cases p
  case hl => exact setRegHL hu x v
  all_goals exact hu

theorem bitMemFlags (x : Ctx) (a : Word) (g : Flags) : Midway s Q (bitMemFlags x a g u) := by
  cases x <;> exact hu

theorem fetched (m1 : Bool) : Midway s Q (u.fetched m1) := by
  cases m1 <;> exact hu

/-- A call that fails raises the first error; one that succeeds leaves the rest of the step, with the call logged. -/
theorem adapterCall {ad : Adapter} {call : CallName} {addr : Option Word} {failed : State → State} {k : State → Out}
    (hfailed : ∀ v record, FirstError s { v with fault := record } → FirstError s { failed v with fault := record })
    (hk : (∀ ev, Midway s Q (u.called.logged ev)) → Q (k u.called)) : Q (adapterCall ad call addr failed u k) := by
  obtain ⟨⟨calls, hcalls, hdrop⟩, hstart, hticks, hQ⟩ := hu
  obtain ⟨err, es, he, hfail⟩ | ⟨hnone, hgo⟩ := adapterCall_cases u ad call addr failed k
  · have hnext : s.adapterErrs.drop calls.length = some err :: u.called.adapterErrs := by
      rw [← hdrop, State.called, he, List.tail_cons]
    rw [hfail, hstart]
    exact hQ _ (hfailed _ _ ⟨ad, call, addr, err, calls, rfl, hcalls, hnext, hticks⟩)
  · rw [hgo]
    exact hk fun ev => ⟨.trans ⟨calls, hcalls, hdrop⟩ (.logged_called hnone ev), hstart, hticks, hQ⟩

theorem memRead {a : Word} {k : Byte → State → Out} (hk : ∀ v w, Midway s Q w → Q (k v w)) : Q (memRead a u k) :=
  adapterCall hu (fun _ _ => id) fun hw => hk _ _ (hw _)

theorem memWrite {a : Word} {v : Byte} {k : State → Out} (hk : ∀ w, Midway s Q w → Q (k w)) : Q (memWrite a v u k) :=
  adapterCall hu (fun _ _ => id) fun hw => hk _ (hw (.memWrite a v))

theorem memRead2 {a : Word} {k : Word → State → Out} (hk : ∀ v w, Midway s Q w → Q (k v w)) : Q (memRead2 a u k) :=
  memRead hu fun _ _ hw => memRead hw fun _ _ hw => hk _ _ hw

theorem memWrite2 {a v : Word} {k : State → Out} (hk : ∀ w, Midway s Q w → Q (k w)) : Q (memWrite2 a v u k) :=
  memWrite hu fun _ hw => memWrite hw hk

theorem push16 {v : Word} {k : State → Out} (hk : ∀ w, Midway s Q w → Q (k w)) : Q (push16 v u k) :=
  memWrite (u := { u with sp := u.sp - 1 }) hu fun w hw => memWrite (u := { w with sp := w.sp - 1 }) hw hk

theorem pop16 {k : Word → State → Out} (hk : ∀ v w, Midway s Q w → Q (k v w)) : Q (pop16 u k) :=
  memRead hu fun lo w hw => memRead (u := { w with sp := w.sp + 1 }) hw fun hi w hw =>
    hk (mkWord hi lo) { w with sp := w.sp + 1 } hw

theorem ioRead {port : Word} {k : Byte → State → Out} (hk : ∀ v w, Midway s Q w → Q (k v w)) : Q (ioRead port u k) := by
  refine adapterCall hu (fun _ _ => id) fun hw => hk _ _ ?_
  unfold ioAnswer
  split <;> exact hw _

theorem ioWrite {port : Word} {v : Byte} {k : State → Out} (hk : ∀ w, Midway s Q w → Q (k w)) :
    Q (ioWrite port v u k) :=
  adapterCall hu (fun _ _ => id) fun hw => hk _ (hw _)

theorem getPendingSource {k : Option Source → State → Out} (hk : ∀ o w, Midway s Q w → Q (k o w)) :
    Q (getPendingSource u k) := by
  refine adapterCall hu (fun _ _ => id) fun hw => hk _ _ ?_
  unfold pendingAnswer
  split <;> exact hw _

theorem callAcceptInterrupt {src : Source} {k : Byte → State → Out} (hk : ∀ v w, Midway s Q w → Q (k v w)) :
    Q (callAcceptInterrupt src u k) :=
  adapterCall hu (fun _ _ => id) fun hw => hk _ _ (hw _)

theorem callInterruptFinish {handle : Nat} {k : State → Out} (hk : ∀ w, Midway s Q w → Q (k w)) :
    Q (callInterruptFinish handle u k) :=
  adapterCall hu (fun _ _ => id) fun hw => hk _ (hw _)

theorem returnFromInterrupt {k : State → Out} (hk : ∀ w, Midway s Q w → Q (k w)) : Q (returnFromInterrupt u k) :=
  pop16 hu fun target w hw => hk { w with pc := target, iff1 := w.iff2 } hw

theorem finishInService {k : State → Out} (hk : ∀ w, Midway s Q w → Q (k w)) : Q (finishInService u k) := by
  rcases hs : u.inService with _ | ⟨handle, rest⟩
  · rw [finishInService_nil hs]
    exact hk u hu
  · rw [finishInService_cons hs]
    exact callInterruptFinish (u := { u with inService := rest }) hu hk

end

end Midway

/-! ### Every instruction -/

/-- How an instruction ends (R483, R485): in a next state, after calls that all succeeded and at most 23 T-states later,
or in the fault of the first call that reported an error. It is never refused. -/
def Completes (s : State) : Out → Prop
  | .next t => CallsMade s t ∧ t.tstates ≤ s.tstates + 23
  | .fault f => ∃ c, f = .adapterError c ∧ FirstError s c
  | .refused _ => False

theorem Midway.refl (s : State) : Midway s (Completes s) s :=
  ⟨.refl s, rfl, rfl, fun c hc => ⟨c, rfl, hc⟩⟩

section
variable {s u : State} (hu : Midway s (Completes s) u)
include hu

theorem Midway.completes {n : Nat} (h : n ≤ 23) : Completes s (.next (u.addT n)) := by
  obtain ⟨hcalls, -, hticks, -⟩ := hu
  exact ⟨hcalls, hticks ▸ Nat.add_le_add_left h u.tstates⟩

/-- Repeating or not, the end of a block iteration makes no call (46_block.md R391). -/
theorem Midway.repeatEnd (again : Bool) : Completes s (repeatEnd again u) := by
  cases again
  · exact hu.completes (by decide)
  · exact Midway.completes (u := { u with pc := u.pc - 2 }) hu (by decide)

end

/-! The costs of a context: 4 T-states for a DD or FD byte, or the indexed cost (70_reset_and_hazards.md R540). -/

theorem ctxT_le (x : Ctx) : ctxT x ≤ 4 := by cases x <;> decide

theorem halfT_le (x : Ctx) (used : Bool) : halfT x used ≤ 4 := by
  cases used
  · exact Nat.zero_le 4
  · exact ctxT_le x

theorem memT_le (x : Ctx) {plain indexed n : Nat} (hp : plain ≤ n) (hi : indexed ≤ n) : memT x plain indexed ≤ n := by
  cases x
  · exact hp
  · exact hi
  · exact hi

theorem cbMemT_le (x : Ctx) (p : Params) {plain counted n : Nat} (hp : plain ≤ n) (hc : counted ≤ n) :
    cbMemT x p plain counted ≤ n := by
  obtain h | h := cbMemT_cases x p plain counted
  · rwa [h]
  · rwa [h]

/-- A cost with a context's 4 T-states added is within 23. -/
theorem add_ctxT_le (x : Ctx) {n : Nat} (h : n ≤ 19) : n + ctxT x ≤ 23 := Nat.add_le_add h (ctxT_le x)

theorem add_halfT_le (x : Ctx) (used : Bool) {n : Nat} (h : n ≤ 19) : n + halfT x used ≤ 23 :=
  Nat.add_le_add h (halfT_le x used)

/-! The operations that several families share. -/

section
variable (s : State)

theorem opStoreA_completes (addr : Word) {cost : Nat} (h : cost ≤ 23) : Completes s (opStoreA addr cost s) :=
  (Midway.refl s).memWrite fun _ hw => hw.completes h

theorem opLoadA_completes (addr : Word) {cost : Nat} (h : cost ≤ 23) : Completes s (opLoadA addr cost s) :=
  (Midway.refl s).memRead fun v w hw => Midway.completes (u := { w with a := v }) hw h

theorem opStoreWord_completes (nn v : Word) {cost : Nat} (h : cost ≤ 23) : Completes s (opStoreWord nn v cost s) :=
  (Midway.refl s).memWrite2 fun _ hw => hw.completes h

theorem opLoadWord_completes (x : Ctx) (p : Rp) (nn : Word) {cost : Nat} (h : cost ≤ 23) :
    Completes s (opLoadWord x p nn cost s) :=
  (Midway.refl s).memRead2 fun v _ hw => (hw.setReg16 x p v).completes h

theorem opStepR_completes (g : Byte → Flags → Byte × Flags) (x : Ctx) (n : Reg8) : Completes s (opStepR g x n s) :=
  ((Midway.refl s).setF _ |>.setReg8 x n _).completes (add_halfT_le x n.isHL (by decide))

theorem opStepM_completes (g : Byte → Flags → Byte × Flags) (x : Ctx) (d : Byte) : Completes s (opStepM g x d s) :=
  (Midway.refl s).memRead fun _ _ hw => (hw.setF _).memWrite fun _ hw =>
    hw.completes (memT_le x (by decide) (by decide))

theorem opNibbles_completes (toMem toA : Byte → Byte → Byte) : Completes s (opNibbles toMem toA s) :=
  (Midway.refl s).memRead fun _ _ hw => hw.memWrite fun w hw =>
    Midway.completes (u := w.setAF _) hw (by decide)

theorem opPutBitR_completes (g : Idx8 → Byte → Byte) (y : Idx8) (n : Reg8) : Completes s (opPutBitR g y n s) :=
  ((Midway.refl s).setReg8 .none n _).completes (by decide)

theorem opPutBitM_completes (g : Idx8 → Byte → Byte) (x : Ctx) (y : Idx8) (d : Byte) :
    Completes s (opPutBitM g x y d s) :=
  (Midway.refl s).memRead fun _ _ hw => hw.memWrite fun _ hw =>
    hw.completes (cbMemT_le x s.params (by decide) (by decide))

theorem callTo_completes (target : Word) {cost : Nat} (h : cost ≤ 23) : Completes s (callTo target cost s) :=
  (Midway.refl s).push16 fun w hw => Midway.completes (u := w.setPC target) hw h

theorem returnTo_completes {cost : Nat} (h : cost ≤ 23) : Completes s (returnTo cost s) :=
  (Midway.refl s).pop16 fun target w hw => Midway.completes (u := w.setPC target) hw h

theorem opCopy_completes (up rep : Bool) : Completes s (opCopy up rep s) :=
  (Midway.refl s).memRead fun _ _ hw => hw.memWrite fun _ hw => Midway.repeatEnd (by exact hw) _

theorem opCompare_completes (up rep : Bool) : Completes s (opCompare up rep s) :=
  (Midway.refl s).memRead fun _ _ hw => Midway.repeatEnd (by exact hw) _

theorem opInput_completes (up rep : Bool) : Completes s (opInput up rep s) :=
  (Midway.refl s).ioRead fun _ _ hw => hw.memWrite fun _ hw => Midway.repeatEnd (by exact hw) _

theorem opOutput_completes (up rep : Bool) : Completes s (opOutput up rep s) :=
  (Midway.refl s).memRead fun _ _ hw => hw.ioWrite fun _ hw => Midway.repeatEnd (by exact hw) _

end

/-- How executing any instruction ends, one case per family: the calls its shared operation makes, in order, and its
cost. -/
theorem exec_completes (i : Instr) (s : State) : Completes s (exec i s) := by
  have hs := Midway.refl s
  induction i using instr_families with
  | hNop | hHalt | hDi | hEi | hLdIA | hLdRA | hLdAI | hLdAR | hNeg | hRlca | hRrca | hRla | hRra | hDaa | hCpl
  | hScf | hCcf | hJr e | hJp nn | hExAf | hExx | hExDeHl => exact ⟨.refl s, Nat.add_le_add_left (by decide) s.tstates⟩
  | hIm m => exact exec_mkIm m s ▸ ⟨.refl s, Nat.add_le_add_left (by decide) s.tstates⟩
  | hLdRR x dst src => exact exec_mkLdRR x dst src s ▸ (hs.setReg8 x dst _).completes (add_halfT_le x _ (by decide))
  | hLdRM x r d =>
    exact exec_mkLdRM x r d s ▸ hs.memRead fun v _ hw =>
      (hw.setReg8 .none r v).completes (memT_le x (by decide) (by decide))
  | hLdMR x r d =>
    exact exec_mkLdMR x r d s ▸ hs.memWrite fun _ hw => hw.completes (memT_le x (by decide) (by decide))
  | hLdRN x r n => exact exec_mkLdRN x r n s ▸ (hs.setReg8 x r n).completes (add_halfT_le x _ (by decide))
  | hLdMN x d n =>
    exact exec_mkLdMN x d n s ▸ hs.memWrite fun _ hw => hw.completes (memT_le x (by decide) (by decide))
  | hLdBcA => exact opStoreA_completes s s.bc (by decide)
  | hLdDeA => exact opStoreA_completes s s.de (by decide)
  | hLdNnA nn => exact opStoreA_completes s nn (by decide)
  | hLdABc => exact opLoadA_completes s s.bc (by decide)
  | hLdADe => exact opLoadA_completes s s.de (by decide)
  | hLdANn nn => exact opLoadA_completes s nn (by decide)
  | hLdRpNn x p nn => exact exec_mkLdRpNn x p nn s ▸ (hs.setReg16 x p nn).completes (add_halfT_le x _ (by decide))
  | hLdNnHl x nn => exact exec_mkLdNnHl x nn s ▸ opStoreWord_completes s nn _ (add_ctxT_le x (by decide))
  | hLdHlNn x nn => exact exec_mkLdHlNn x nn s ▸ opLoadWord_completes s x .hl nn (add_ctxT_le x (by decide))
  | hLdNnRp p nn => exact exec_mkLdNnRp p nn s ▸ opStoreWord_completes s nn _ (by decide)
  | hLdRpNnMem p nn => exact exec_mkLdRpNnMem p nn s ▸ opLoadWord_completes s .none p nn (by decide)
  | hLdSpHl x =>
    exact exec_mkLdSpHl x s ▸ Midway.completes (u := { s with sp := _ }) hs (add_ctxT_le x (by decide))
  | hAluR x op r =>
    exact exec_mkAluR x op r s ▸ Midway.completes (u := s.setAF _) hs (add_halfT_le x _ (by decide))
  | hAluM x op d =>
    exact exec_mkAluM x op d s ▸ hs.memRead fun _ w hw =>
      Midway.completes (u := w.setAF _) hw (memT_le x (by decide) (by decide))
  | hAluN op n => exact exec_mkAluN op n s ▸ Midway.completes (u := s.setAF _) hs (by decide)
  | hIncR x r => exact exec_mkIncR x r s ▸ opStepR_completes s inc8 x r
  | hDecR x r => exact exec_mkDecR x r s ▸ opStepR_completes s dec8 x r
  | hIncM x d => exact exec_mkIncM x d s ▸ opStepM_completes s inc8 x d
  | hDecM x d => exact exec_mkDecM x d s ▸ opStepM_completes s dec8 x d
  | hRrd => exact opNibbles_completes s rrdMem rrdA
  | hRld => exact opNibbles_completes s rldMem rldA
  | hAddHl x p => exact exec_mkAddHl x p s ▸ (hs.setF _ |>.setRegHL x _).completes (add_ctxT_le x (by decide))
  | hIncRp x p => exact exec_mkIncRp x p s ▸ (hs.setReg16 x p _).completes (add_halfT_le x _ (by decide))
  | hDecRp x p => exact exec_mkDecRp x p s ▸ (hs.setReg16 x p _).completes (add_halfT_le x _ (by decide))
  | hAdcHl p => exact exec_mkAdcHl p s ▸ (hs.setF _ |>.setRegHL .none _).completes (by decide)
  | hSbcHl p => exact exec_mkSbcHl p s ▸ (hs.setF _ |>.setRegHL .none _).completes (by decide)
  | hJrCc cc e =>
    rw [exec_mkJrCc, opJrCc]
    split
    · exact Midway.completes (u := s.setPC _) hs (by decide)
    · exact hs.completes (by decide)
  | hDjnz e =>
    rw [exec_mkDjnz, opDjnz]
    split
    · exact Midway.completes (u := { s with b := _ }) hs (by decide)
    · exact Midway.completes (u := State.setPC _ { s with b := _ }) hs (by decide)
  | hJpCc cc nn =>
    rw [exec_mkJpCc, opJpCc]
    split
    · exact Midway.completes (u := s.setPC nn) hs (by decide)
    · exact hs.completes (by decide)
  | hJpHl x => exact exec_mkJpHl x s ▸ Midway.completes (u := s.setPC _) hs (add_ctxT_le x (by decide))
  | hCall nn => exact callTo_completes s nn (by decide)
  | hCallCc cc nn =>
    rw [exec_mkCallCc, opCallCc]
    split
    · exact callTo_completes s nn (by decide)
    · exact hs.completes (by decide)
  | hRst y => exact exec_mkRst y s ▸ callTo_completes s _ (by decide)
  | hRet => exact returnTo_completes s (by decide)
  | hRetCc cc =>
    rw [exec_mkRetCc, opRetCc]
    split
    · exact returnTo_completes s (by decide)
    · exact hs.completes (by decide)
  | hRetn => exact hs.returnFromInterrupt fun _ hw => hw.completes (by decide)
  | hReti => exact hs.returnFromInterrupt fun _ hw => hw.finishInService fun _ hw => hw.completes (by decide)
  | hPush x p => exact exec_mkPush x p s ▸ hs.push16 fun _ hw => hw.completes (add_halfT_le x _ (by decide))
  | hPop x p =>
    exact exec_mkPop x p s ▸ hs.pop16 fun v _ hw =>
      (hw.setReg16af x p v).completes (add_halfT_le x _ (by decide))
  | hExSp x =>
    exact exec_mkExSp x s ▸ hs.memRead fun _ _ hw => hw.memRead fun _ _ hw => hw.memWrite fun _ hw =>
      hw.memWrite fun _ hw => (hw.setRegHL x _).completes (add_ctxT_le x (by decide))
  | hRotR op r => exact exec_mkRotR op r s ▸ (hs.setF _ |>.setReg8 .none r _).completes (by decide)
  | hRotM x op d =>
    exact exec_mkRotM x op d s ▸ hs.memRead fun _ _ hw => (hw.setF _).memWrite fun _ hw =>
      hw.completes (cbMemT_le x s.params (by decide) (by decide))
  | hBitR y r => exact exec_mkBitR y r s ▸ (hs.setF _).completes (by decide)
  | hBitM x y d =>
    exact exec_mkBitM x y d s ▸ hs.memRead fun _ _ hw =>
      (hw.bitMemFlags x (ea x d s) _).completes (cbMemT_le x s.params (by decide) (by decide))
  | hResR y r => exact exec_mkResR y r s ▸ opPutBitR_completes s resBit y r
  | hResM x y d => exact exec_mkResM x y d s ▸ opPutBitM_completes s resBit x y d
  | hSetR y r => exact exec_mkSetR y r s ▸ opPutBitR_completes s setBit y r
  | hSetM x y d => exact exec_mkSetM x y d s ▸ opPutBitM_completes s setBit x y d
  | hInAN n => exact hs.ioRead fun v w hw => Midway.completes (u := { w with a := v }) hw (by decide)
  | hOutNA n => exact hs.ioWrite fun _ hw => hw.completes (by decide)
  | hInR r => exact exec_mkInR r s ▸ hs.ioRead fun v _ hw => (hw.setF _ |>.setReg8 .none r v).completes (by decide)
  | hOutR r => exact exec_mkOutR r s ▸ hs.ioWrite fun _ hw => hw.completes (by decide)
  | hLdi | hLdd | hLdir | hLddr => exact opCopy_completes s _ _
  | hCpi | hCpd | hCpir | hCpdr => exact opCompare_completes s _ _
  | hIni | hInd | hInir | hIndr => exact opInput_completes s _ _
  | hOuti | hOutd | hOtir | hOtdr => exact opOutput_completes s _ _

theorem exec_ne_refused (i : Instr) (s : State) (r : Refusal) : exec i s ≠ .refused r := by
  intro h
  have hx := exec_completes i s
  rwa [h] at hx

theorem exec_callsMade {i : Instr} {s t : State} (h : exec i s = .next t) :
    CallsMade s t ∧ t.tstates ≤ s.tstates + 23 := by
  have hx := exec_completes i s
  rwa [h] at hx

theorem exec_firstError {i : Instr} {s : State} {f : Fault} (h : exec i s = .fault f) :
    ∃ c, f = .adapterError c ∧ FirstError s c := by
  have hx := exec_completes i s
  rwa [h] at hx

/-- Settles O32: a fault would come from an error in the list, a refusal from nothing. -/
theorem everyInstructionCompletes : Obligations.EveryInstructionCompletes := by
  intro i s hnone
  rcases h : exec i s with t | f | r
  · obtain ⟨-, hle⟩ := exec_callsMade h
    exact ⟨t, rfl, (exec_executed i s t h).tstates, hle⟩
  · obtain ⟨c, -, ad, call, addr, err, calls, -, -, herr, -⟩ := exec_firstError h
    have hmem : some err ∈ s.adapterErrs := List.mem_of_mem_drop (herr ▸ List.mem_cons_self)
    cases hnone _ hmem
  · exact absurd h (exec_ne_refused i s r)

/-! ### The parts of a step -/

section
variable {s u : State} {Q : State → Prop} (hu : Midway s (Ends Q) u)
include hu

theorem Midway.fetchTree (d : Dec) (passT : Nat) (bytes : List Byte) {k : Instr → Nat → State → Out}
    (hk : ∀ i p w, CallsMade s w → Ends Q (k i p w)) : Ends Q (fetchTree d passT bytes u k) := by
  induction d generalizing passT bytes u with
  | done i => exact hk i passT u hu.callsMade
  | unknown => exact .raise _ _
  | pass next ih => exact ih hu (passT + 4) bytes
  | more m1 next ih => exact hu.memRead fun b _ hw => ih b (hw.fetched m1) passT (bytes ++ [b])

variable {k : State → Out} (hk : ∀ w, CallsMade s w → Ends Q (k w))
include hk

theorem Midway.pushAndEnter (target : Word) (handle cost : Nat) : Ends Q (pushAndEnter target handle cost u k) :=
  push16 (u := { u with halted := false }) hu fun w hw => hk (enterHandler target handle cost w) hw.callsMade

/-- The calls of an acceptance are the one to the source, the push of PC and the reads of the table (R493). -/
theorem Midway.acceptInterrupt (src : Source) : Ends Q (acceptInterrupt src u k) := by
  unfold Machine.acceptInterrupt
  split
  · refine Midway.callAcceptInterrupt (u := { u with iff1 := false, iff2 := false }) hu fun v w hw => ?_
    split
    · split
      · exact hw.pushAndEnter hk _ _ _
      · exact .raise _ _
    · exact hw.pushAndEnter hk _ _ _
    · exact Midway.push16 (u := { w with halted := false }) hw fun w hw => hw.memRead2 fun target w hw =>
        hk (enterHandler target src.handle 19 w) hw.callsMade
  · exact .raise _ _

/-- The calls of an interrupt check are the question to the registry and those of an acceptance (R491, R492). -/
theorem Midway.interruptCheck : Ends Q (interruptCheck u k) := by
  unfold Machine.interruptCheck
  split
  · exact hk { u with eiDiDelay := false } hu.callsMade
  · split
    · refine hu.getPendingSource fun o w hw => ?_
      cases o with
      | none => exact hk w hw.callsMade
      | some src => exact hw.acceptInterrupt hk src
    · exact hk u hu.callsMade

end

theorem runInstr_callsMade (i : Instr) (passT : Nat) (s : State) : Ends (CallsMade s) (runInstr i passT s) := by
  intro t h
  obtain ⟨u, hu, rfl⟩ := runInstr_next h
  exact (exec_callsMade hu).1

theorem executeInstruction_callsMade (s : State) : Ends (CallsMade s) (executeInstruction s) :=
  (Midway.refl_ends { s with start := s.pc } (CallsMade s)).fetchTree decoder 0 [] fun i p w hw t ht =>
    CallsMade.trans hw (runInstr_callsMade i p w t ht)

theorem haltOrExecute_callsMade (s : State) : Ends (CallsMade s) (haltOrExecute s) := by
  intro t h
  obtain ⟨-, rfl⟩ | ⟨-, he⟩ := haltOrExecute_next h
  · exact .refl s
  · exact executeInstruction_callsMade s t he

/-- A step that goes on made no call, in its check, its fetch or its instruction, that reported an error. -/
theorem step_callsMade {s t : State} (h : step s = .next t) : CallsMade s t := by
  obtain ⟨-, hbody⟩ := step_next h
  have hcheck := Midway.refl_ends { s with start := s.pc } (CallsMade s)
  exact hcheck.interruptCheck (fun w hw t ht => CallsMade.trans hw (haltOrExecute_callsMade w t ht)) t hbody

/-- Settles O31: the outcomes of an instruction are those of `Completes`, and a step is followed call by call. -/
theorem execFaultsOnlyByAdapter : Obligations.ExecFaultsOnlyByAdapter := by
  refine ⟨fun i s => ⟨exec_ne_refused i s, fun t h => (exec_callsMade h).1, fun f h => ?_⟩, fun s t => step_callsMade⟩
  obtain ⟨c, hf, ad, call, addr, err, calls, hc⟩ := exec_firstError h
  exact ⟨c, ad, call, addr, err, calls, hf, hc⟩

end Sys2Proof.Machine
end
